-- ==== Sys2Proof/Word.lean ====
section
/-! DEFINITION. The two word types of the block: the byte of the buffers (`20_memory.md` R60) and the 32-bit
word of the command port, of the registers and of the virtual clock (`00_scope.md` R8). -/

namespace Sys2Proof

/-- A byte of `REQMEM`, `TXBUF` or `RXBUF` (R60). -/
abbrev Byte := BitVec 8

/-- A 32-bit word: a command word, a register image, a time (R8: `REG_W = TICK_W = 32`). -/
abbrev Word := BitVec 32

end Sys2Proof
end

