-- ==== Sys2Proof/Syntax.lean ====
section
/-! DEFINITION. The operations of the block, one constructor per row of `spec/opcode_table.json`
(`30_encoding.md` R100), with the operands of the command formats (R101, R102), and the three-word command. -/

namespace Sys2Proof

/-- PHY transmit status of `TXCFM` (R108): four named codes; every code 4 to 255 is unknown and keeps its number. -/
inductive PhyStatus where
  /-- code 0 -/
  | success
  /-- code 1 -/
  | busyChannelSense
  /-- code 2 -/
  | busyOwnRx
  /-- code 3 -/
  | busyOwnTx
  /-- codes 4 to 255 -/
  | unknown (code : BitVec 8)
  deriving DecidableEq, Repr

/-- Delimiter type of `ACKIND` (R108): 2 `ACK`, 3 `NACK`, every other code an unknown delimiter that keeps its number. -/
inductive Delim where
  /-- code 2 -/
  | ack
  /-- code 3 -/
  | nack
  /-- every other code -/
  | other (code : BitVec 8)
  deriving DecidableEq, Repr

/-- One operation of the block (R100). Widths are those of the operand fields of R101, so that no operand can be
out of its field; a code operand is the enumeration of R108. -/
inductive Instr where
  /-- 0x01, format F; `clr` is `W0[8]` (R201). -/
  | reset (clr : Bool)
  /-- 0x02, format R; `reg` is `W0[15:8]` (R203). -/
  | get (reg : BitVec 8)
  /-- 0x03, format R; `reg` is `W0[15:8]`, `value` is `W1` (R204). -/
  | set (reg : BitVec 8) (value : Word)
  /-- 0x04, format Z (R205). -/
  | txreq
  /-- 0x05, format Z (R220). -/
  | poll
  /-- 0x10, format S; `status` is `W0[15:8]`, `time` is `W1` (R244). -/
  | txcfm (status : PhyStatus) (time : Word)
  /-- 0x11, format L; `len` is `W0[19:8]`, `ack` is `W0[20]`, `time` is `W1` (R260). -/
  | rxind (len : BitVec 12) (ack : Bool) (time : Word)
  /-- 0x12, format S; `delim` is `W0[15:8]`, `sub` is `W0[16]`, `fcs` is `W1[15:0]` (R266). -/
  | ackind (delim : Delim) (sub : Bool) (fcs : BitVec 16)
  /-- 0x20, format L; `len` is `W0[19:8]` (R122). -/
  | crc16 (len : BitVec 12)
  /-- 0x21, format Z (R126). -/
  | hdrlen
  /-- 0x22, format L; `len` is `W0[19:8]` (R130). -/
  | decode (len : BitVec 12)
  /-- 0x23, format L; `len` is `W0[19:8]`, `off` is `W1[15:0]` (R140). -/
  | encode (len : BitVec 12) (off : BitVec 16)
  /-- 0x24, format F; `load` is `W0[8]` (R158). -/
  | phycalc (load : Bool)
  /-- 0x25, format F; `prio` is `W0[8]`, `bcast` is `W0[9]` (R172). -/
  | backoff (prio : Bool) (bcast : Bool)
  /-- 0x26, format F; `prio` is `W0[8]` (R176). -/
  | accfail (prio : Bool)
  /-- 0x27, format Z (R178). -/
  | accok
  /-- 0x28, format Z (R184). -/
  | compensate
  /-- 0x29, format N; `seg` is `W0[13:8]`, `off` is `W1[15:0]` (R196). -/
  | nextseg (seg : BitVec 6) (off : BitVec 16)
  /-- 0x2A, format Z (R198). -/
  | segdone
  /-- 0x2B, format F; `retries` is `W0[15:8]` (R258). -/
  | fallback (retries : BitVec 8)
  deriving DecidableEq, Repr

/-- An operation as presented at the command port: three 32-bit words (R100). -/
structure Command where
  w0 : Word
  w1 : Word
  w2 : Word
  deriving DecidableEq, Repr

end Sys2Proof
end

