-- ==== Sys2Proof/WellFormed.lean ====
section
/-! DEFINITION. Which terms of `Instr` stand for a command. The operand widths of `Instr` are those of the fields, so
the only ill-formed terms give a named code (R108) a second spelling as an unknown one. -/

namespace Sys2Proof

/-- `PhyStatus.unknown` is for the codes 4 to 255 only (R108). -/
def PhyStatus.wellFormed (st : PhyStatus) : Bool :=
  match st with
  | .unknown code => decide (4 ≤ code.toNat)
  | .success | .busyChannelSense | .busyOwnRx | .busyOwnTx => true

/-- `Delim.other` is for the codes other than 2 and 3 (R108). -/
def Delim.wellFormed (d : Delim) : Bool :=
  match d with
  | .other code => decide (code ≠ 2#8) && decide (code ≠ 3#8)
  | .ack | .nack => true

/-- A well-formed operation: its code operands are spelt the one way R108 gives them. -/
def Instr.wellFormed (i : Instr) : Bool :=
  match i with
  | .txcfm status _ => status.wellFormed
  | .ackind delim _ _ => delim.wellFormed
  | .reset _ => true
  | .get _ => true
  | .set _ _ => true
  | .txreq => true
  | .poll => true
  | .rxind _ _ _ => true
  | .crc16 _ => true
  | .hdrlen => true
  | .decode _ => true
  | .encode _ _ => true
  | .phycalc _ => true
  | .backoff _ _ => true
  | .accfail _ => true
  | .accok => true
  | .compensate => true
  | .nextseg _ _ => true
  | .segdone => true
  | .fallback _ => true

end Sys2Proof
end

