-- ==== Sys2Proof/Decode.lean ====
section
/-! DEFINITION. Decoding a command (three words) into an operation, total, and encoding an operation into its words,
both from the formats of `30_encoding.md` R101. `opcodeTable` is `spec/opcode_table.json` as data. -/

namespace Sys2Proof

/-- The status code of `TXCFM` as R108 names it. -/
def phyStatusOf (code : BitVec 8) : PhyStatus :=
  if code = 0#8 then .success
  else if code = 1#8 then .busyChannelSense
  else if code = 2#8 then .busyOwnRx
  else if code = 3#8 then .busyOwnTx
  else .unknown code

/-- The number of a status (R108). -/
def phyStatusCode (st : PhyStatus) : BitVec 8 :=
  match st with
  | .success => 0#8
  | .busyChannelSense => 1#8
  | .busyOwnRx => 2#8
  | .busyOwnTx => 3#8
  | .unknown code => code

/-- The delimiter code of `ACKIND` as R108 names it. -/
def delimOf (code : BitVec 8) : Delim :=
  if code = 2#8 then .ack else if code = 3#8 then .nack else .other code

/-- The number of a delimiter (R108). -/
def delimCode (d : Delim) : BitVec 8 :=
  match d with
  | .ack => 2#8
  | .nack => 3#8
  | .other code => code

/-- An operation of format Z: `W0[31:8] = 0` (R101). -/
def formatZ (w0 : Word) (i : Instr) : Option Instr :=
  if w0.extractLsb' 8 24 = 0#24 then some i else none

/-- An operation of format F with one flag at bit 8 (`RESET`, `PHYCALC`, `ACCFAIL`): `W0[31:9] = 0` (R101). -/
def formatF1 (w0 : Word) (f : Bool → Instr) : Option Instr :=
  if w0.extractLsb' 9 23 = 0#23 then some (f (w0.getLsbD 8)) else none

/-- `BACKOFF`: two flags of format F at bits 8 and 9, `W0[31:10] = 0` (R101). -/
def formatF2 (w0 : Word) (f : Bool → Bool → Instr) : Option Instr :=
  if w0.extractLsb' 10 22 = 0#22 then some (f (w0.getLsbD 8) (w0.getLsbD 9)) else none

/-- An operation with an 8-bit operand `W0[15:8]` and `W0[31:16] = 0`: format R, `FALLBACK`, and format S with
`sub = 0` (R101). -/
def formatB (w0 : Word) (f : BitVec 8 → Instr) : Option Instr :=
  if w0.extractLsb' 16 16 = 0#16 then some (f (w0.extractLsb' 8 8)) else none

/-- Format S with the sub-flag `W0[16]` (`ACKIND`): `W0[31:17] = 0` (R101). -/
def formatS (w0 : Word) (f : BitVec 8 → Bool → Instr) : Option Instr :=
  if w0.extractLsb' 17 15 = 0#15 then some (f (w0.extractLsb' 8 8) (w0.getLsbD 16)) else none

/-- Format L with `flag = 0` (`CRC16`, `DECODE`, `ENCODE`): `len = W0[19:8]`, `W0[31:20] = 0` (R101). -/
def formatL (w0 : Word) (f : BitVec 12 → Instr) : Option Instr :=
  if w0.extractLsb' 20 12 = 0#12 then some (f (w0.extractLsb' 8 12)) else none

/-- Format L with the flag `W0[20]` (`RXIND`): `W0[31:21] = 0` (R101). -/
def formatLFlag (w0 : Word) (f : BitVec 12 → Bool → Instr) : Option Instr :=
  if w0.extractLsb' 21 11 = 0#11 then some (f (w0.extractLsb' 8 12) (w0.getLsbD 20)) else none

/-- Format N: `segIndex = W0[13:8]`, `W0[31:14] = 0` (R101). -/
def formatN (w0 : Word) (f : BitVec 6 → Instr) : Option Instr :=
  if w0.extractLsb' 14 18 = 0#18 then some (f (w0.extractLsb' 8 6)) else none

/-- The low half of `W1`, which `ACKIND`, `ENCODE` and `NEXTSEG` read; its bits 31..16 are ignored (R102). -/
def lowHalf (w1 : Word) : BitVec 16 := w1.extractLsb' 0 16

/-- The operation a command stands for, or none when `W0` matches no row of the table (R100, R101, R105). `W2` is
never read. -/
def decode (c : Command) : Option Instr :=
  match c.w0.extractLsb' 0 8 with
  | 0x01#8 => formatF1 c.w0 .reset
  | 0x02#8 => formatB c.w0 .get
  | 0x03#8 => formatB c.w0 (fun reg => .set reg c.w1)
  | 0x04#8 => formatZ c.w0 .txreq
  | 0x05#8 => formatZ c.w0 .poll
  | 0x10#8 => formatB c.w0 (fun code => .txcfm (phyStatusOf code) c.w1)
  | 0x11#8 => formatLFlag c.w0 (fun len ack => .rxind len ack c.w1)
  | 0x12#8 => formatS c.w0 (fun code sub => .ackind (delimOf code) sub (lowHalf c.w1))
  | 0x20#8 => formatL c.w0 .crc16
  | 0x21#8 => formatZ c.w0 .hdrlen
  | 0x22#8 => formatL c.w0 .decode
  | 0x23#8 => formatL c.w0 (fun len => .encode len (lowHalf c.w1))
  | 0x24#8 => formatF1 c.w0 .phycalc
  | 0x25#8 => formatF2 c.w0 .backoff
  | 0x26#8 => formatF1 c.w0 .accfail
  | 0x27#8 => formatZ c.w0 .accok
  | 0x28#8 => formatZ c.w0 .compensate
  | 0x29#8 => formatN c.w0 (fun seg => .nextseg seg (lowHalf c.w1))
  | 0x2A#8 => formatZ c.w0 .segdone
  | 0x2B#8 => formatB c.w0 .fallback
  | _ => none

/-! ## The encoder -/

/-- Format Z, `W0` (R101). -/
def wordZ (op : BitVec 8) : Word := 0#24 ++ op

/-- `W0` with one flag at bit 8 (R101). -/
def wordF1 (op : BitVec 8) (flag : Bool) : Word := 0#23 ++ BitVec.ofBool flag ++ op

/-- `W0` with flags at bits 8 and 9 (R101). -/
def wordF2 (op : BitVec 8) (f8 f9 : Bool) : Word := 0#22 ++ BitVec.ofBool f9 ++ BitVec.ofBool f8 ++ op

/-- `W0` with an 8-bit operand at bits 15..8 (R101). -/
def wordB (op : BitVec 8) (b : BitVec 8) : Word := 0#16 ++ b ++ op

/-- `W0` of format S (R101). -/
def wordS (op : BitVec 8) (code : BitVec 8) (sub : Bool) : Word := 0#15 ++ BitVec.ofBool sub ++ code ++ op

/-- `W0` of format L (R101). -/
def wordL (op : BitVec 8) (len : BitVec 12) (flag : Bool) : Word := 0#11 ++ BitVec.ofBool flag ++ len ++ op

/-- `W0` of format N (R101). -/
def wordN (op : BitVec 8) (seg : BitVec 6) : Word := 0#18 ++ seg ++ op

/-- A 16-bit operand of `W1`, its ignored bits 31..16 written 0 (R102). -/
def halfWord (v : BitVec 16) : Word := 0#16 ++ v

/-- The words of an operation (R100, R101): words a format does not name are 0. -/
def encode (i : Instr) : Command :=
  match i with
  | .reset clr => ⟨wordF1 0x01#8 clr, 0#32, 0#32⟩
  | .get reg => ⟨wordB 0x02#8 reg, 0#32, 0#32⟩
  | .set reg value => ⟨wordB 0x03#8 reg, value, 0#32⟩
  | .txreq => ⟨wordZ 0x04#8, 0#32, 0#32⟩
  | .poll => ⟨wordZ 0x05#8, 0#32, 0#32⟩
  | .txcfm status time => ⟨wordB 0x10#8 (phyStatusCode status), time, 0#32⟩
  | .rxind len ack time => ⟨wordL 0x11#8 len ack, time, 0#32⟩
  | .ackind delim sub fcs => ⟨wordS 0x12#8 (delimCode delim) sub, halfWord fcs, 0#32⟩
  | .crc16 len => ⟨wordL 0x20#8 len false, 0#32, 0#32⟩
  | .hdrlen => ⟨wordZ 0x21#8, 0#32, 0#32⟩
  | .decode len => ⟨wordL 0x22#8 len false, 0#32, 0#32⟩
  | .encode len off => ⟨wordL 0x23#8 len false, halfWord off, 0#32⟩
  | .phycalc load => ⟨wordF1 0x24#8 load, 0#32, 0#32⟩
  | .backoff prio bcast => ⟨wordF2 0x25#8 prio bcast, 0#32, 0#32⟩
  | .accfail prio => ⟨wordF1 0x26#8 prio, 0#32, 0#32⟩
  | .accok => ⟨wordZ 0x27#8, 0#32, 0#32⟩
  | .compensate => ⟨wordZ 0x28#8, 0#32, 0#32⟩
  | .nextseg seg off => ⟨wordN 0x29#8 seg, halfWord off, 0#32⟩
  | .segdone => ⟨wordZ 0x2A#8, 0#32, 0#32⟩
  | .fallback retries => ⟨wordB 0x2B#8 retries, 0#32, 0#32⟩

/-! ## The opcode table as data -/

/-- A row of `spec/opcode_table.json`: the bits of `W0` under the mask, and their value. -/
structure OpcodeRow where
  mask : Word
  value : Word
  deriving DecidableEq, Repr

/-- `W0` matches a row (R105). -/
def OpcodeRow.fits (r : OpcodeRow) (w0 : Word) : Bool := decide (w0 &&& r.mask = r.value)

/-- `spec/opcode_table.json`, its 20 rows in its order (`mask`, `match`). -/
def opcodeTable : List OpcodeRow :=
  [⟨0xFFFFFEFF#32, 0x00000001#32⟩, ⟨0xFFFF00FF#32, 0x00000002#32⟩, ⟨0xFFFF00FF#32, 0x00000003#32⟩,
   ⟨0xFFFFFFFF#32, 0x00000004#32⟩, ⟨0xFFFFFFFF#32, 0x00000005#32⟩, ⟨0xFFFF00FF#32, 0x00000010#32⟩,
   ⟨0xFFE000FF#32, 0x00000011#32⟩, ⟨0xFFFE00FF#32, 0x00000012#32⟩, ⟨0xFFF000FF#32, 0x00000020#32⟩,
   ⟨0xFFFFFFFF#32, 0x00000021#32⟩, ⟨0xFFF000FF#32, 0x00000022#32⟩, ⟨0xFFF000FF#32, 0x00000023#32⟩,
   ⟨0xFFFFFEFF#32, 0x00000024#32⟩, ⟨0xFFFFFCFF#32, 0x00000025#32⟩, ⟨0xFFFFFEFF#32, 0x00000026#32⟩,
   ⟨0xFFFFFFFF#32, 0x00000027#32⟩, ⟨0xFFFFFFFF#32, 0x00000028#32⟩, ⟨0xFFFFC0FF#32, 0x00000029#32⟩,
   ⟨0xFFFFFFFF#32, 0x0000002A#32⟩, ⟨0xFFFF00FF#32, 0x0000002B#32⟩]

/-- The command whose words hold the bits of `w`, bit 0 the least significant bit of `W0`, `W1` above it, then `W2`
(R100: three 32-bit words). Only the low `nbits` of `w` count; every bit above them is 0. -/
def commandOfBits (nbits w : Nat) : Command :=
  let v := w % 2 ^ nbits
  ⟨BitVec.ofNat 32 v, BitVec.ofNat 32 (v / 2 ^ 32), BitVec.ofNat 32 (v / 2 ^ 64)⟩

/-- The operation the decoder reads from a table row's bits (host interface). -/
def decodeTableWord (nbits w : Nat) : Option Instr := decode (commandOfBits nbits w)

end Sys2Proof
end

