-- ==== Sys2Proof/Config.lean ====
section
/-! DEFINITION. What an implementation fixes: the constants of `00_scope.md` R8, and the functions and band parameters
the spec leaves OPEN (`41_phy_params.md` R152, R156), which are opaque: no value of theirs can be computed or proved.

The constants the spec took from general knowledge (`93_implementation_defined.md` Part 2) stand here, once each, so
that one place changes if a chip record corrects them (`40_frame_codec.md` R120). -/

namespace Sys2Proof

/-- Modulation type, ordered by robustness (`10_state.md` R34). The codes 5 to 7 are never held and are
unrepresentable (`93_implementation_defined.md` K13; log entry 8, safe). -/
inductive ModType where
  /-- code 0 -/
  | robust
  /-- code 1 -/
  | bpsk
  /-- code 2 -/
  | qpsk
  /-- code 3 -/
  | psk8
  /-- code 4 -/
  | qam16
  deriving DecidableEq, Repr

/-- The input record of the PHY Parameter Calculator's functions (R151). -/
structure SnapIn where
  /-- `SNAP_MOD.TYPE` -/
  type : ModType
  /-- `SNAP_MOD.SCHEME`: false differential, true coherent -/
  scheme : Bool
  /-- `SNAP_MOD.TWO_RS` -/
  twoRs : Bool
  /-- `SNAP_TONE_MAP` -/
  toneMap : BitVec 24
  /-- `SNAP_TONE_MASK_2`, `_1`, `_0`, the first most significant -/
  toneMask : BitVec 96
  /-- `SNAP_GAIN` -/
  gain : Word
  deriving DecidableEq, Repr

/-- The document's "maximum physical payload", OPEN (R156, D30). DESIGN CHOICE: an opaque constant (log entry 5). Safe:
every claim holds for every function. -/
opaque Config.maxPhyPayload : SnapIn → Nat

/-- The padding that rounds a candidate frame length up to whole Reed-Solomon blocks, OPEN (R156, D30). DESIGN CHOICE:
an opaque constant (log entry 5). Safe: every claim holds for every function. -/
opaque Config.rsPad : SnapIn → Nat → Nat

/-- `NUM_CARRIERS`, at most 96, OPEN (R152). DESIGN CHOICE: opaque (log entry 6). Safe. -/
opaque Config.numCarriers : Fin 97

/-- `SUBBAND_WIDTH - 1`; the width is at least 1, OPEN (R152). DESIGN CHOICE: opaque (log entry 6). Safe. -/
opaque Config.subbandWidthLessOne : Nat

/-- `toneMap[k]` for a sub-band index `k` beyond the 32 bits of the register, on which R152 is silent: a free value.
DESIGN CHOICE: opaque (log entry 23). Safe. -/
opaque Config.toneMapBeyond : BitVec 24 → Nat → Bool

/-- `PILOT_SPACING`, OPEN (R152). DESIGN CHOICE: opaque (log entry 6). Safe. -/
opaque Config.pilotSpacing : Nat

/-- `pilotCount(activeCount, PILOT_SPACING)`, OPEN (R152). DESIGN CHOICE: opaque (log entry 6). Safe. -/
opaque Config.pilotCount : Nat → Nat → Nat

/-- `FRAME_BUF_LEN`: bytes of `TXBUF` and of `RXBUF` (R8, R60). -/
def Config.frameBufLen : Nat := 2048

/-- `REQMEM_LEN` (R8, R60). -/
def Config.reqmemLen : Nat := 65536

/-- `MIN_FRAME_LEN`: the least length `decode` accepts (R8). -/
def Config.minFrameLen : Nat := 8

/-- `CRC_POLY` (R8, R120). -/
def Config.crcPoly : BitVec 16 := 0x1021#16

/-- The bit-reversal of `CRC_POLY`, which the reflected computation uses (R120). -/
def Config.crcPolyReversed : BitVec 16 := 0x8408#16

/-- `CRC_INIT` (R8, R120). -/
def Config.crcInit : BitVec 16 := 0x0000#16

/-- `CRC_REFLECT`: input and output reflected (R8, R120). -/
def Config.crcReflect : Bool := true

/-- `CRC_XOROUT` (R8, R120). -/
def Config.crcXorOut : BitVec 16 := 0x0000#16

/-- `SHORT_ADDR_UNDEFINED`: the sentinel a short source address must not be (R8, D18). -/
def Config.shortAddrUndefined : BitVec 16 := 0xFFFF#16

/-- `SHORT_ADDR_BROADCAST` (R8, D18). -/
def Config.shortAddrBroadcast : BitVec 16 := 0xFFFF#16

/-- `PAN_BROADCAST` (R8, D18). -/
def Config.panBroadcast : BitVec 16 := 0xFFFF#16

/-- `MAX_SEG_LEN`: the largest value of the 10-bit segment length (R8). -/
def Config.maxSegLen : Nat := 1023

/-- `MAX_SEG_NUM`: the largest value of the 6-bit segment number (R8). -/
def Config.maxSegNum : BitVec 6 := 63#6

/-- The frame type of a transmitted segment, the data frame (`43_segmentation.md` R192, D32). -/
def Config.dataFrameType : BitVec 3 := 1#3

end Sys2Proof
end

