-- ==== Sys2Proof/Machine/State.lean ====
section
/-! DEFINITION. The state of the block as plain data (`10_state.md` R20): the register banks, the two frame buffers and
the request memory; the command port's stream, samples and outputs (`00_scope.md` R6); `Fault`, `Refusal`; and
`State.reset`, the state after power-on (`10_state.md` R43, `44_host_commands.md` R202). -/

namespace Sys2Proof.Machine

/-! ## Tags and codes -/

/-- Channel-occupancy state tag `STATE.OCC` (R36). Values 6 and 7 are never held and are unrepresentable
(K13; log entry 8, safe). -/
inductive Occ where
  | idle
  | eifs
  | cifs
  | rcifs
  | cp
  | rifs
  deriving DecidableEq, Repr

/-- Transmit sub-state tag `STATE.TX` (R37). Values 10 to 15 are never held and are unrepresentable
(K13; log entry 8, safe). -/
inductive TxSub where
  | none
  | start
  | csmaCa
  | waitSend
  | waitConfirm
  | failCsmaCa
  | waitAck
  | sendOk
  | littleFail
  | bigFail
  deriving DecidableEq, Repr

/-- Frame rejection codes, `LAST_REJECT` among them (`60_exceptions.md` R281). -/
inductive RejectCode where
  | none
  | short
  | badCrc
  | badType
  | pending
  | badAddrMode
  | length
  | srcUndefined
  deriving DecidableEq, Repr

/-- Response codes (`30_encoding.md` R103, `60_exceptions.md` R282). -/
inductive RspCode where
  | ok
  | errIllegal
  | errBusy
  | errParam
  | errRo
  | errReg
  | rejected
  deriving DecidableEq, Repr

/-- Outcomes of a Transmit Request (`60_exceptions.md` R285). -/
inductive TxOutcome where
  | success
  | noAck
  | channelAccessFailure
  | transactionOverflow
  | denied
  deriving DecidableEq, Repr

/-- Addressing mode code of the frame control (`10_state.md` R28): 0 none, 1 reserved, 2 short, 3 extended. -/
inductive AddrMode where
  | none
  | reserved
  | short
  | extended
  deriving DecidableEq, Repr

/-! ## Register banks -/

/-- Configuration bank, registers 0x00 to 0x19 (`10_state.md` R24 to R27). -/
structure CfgBank where
  /-- 0x00 `PAN_ID` -/
  panId : BitVec 16
  /-- 0x01 `SHORT_ADDR` -/
  shortAddr : BitVec 16
  /-- 0x02 `EXT_ADDR_LO` -/
  extAddrLo : Word
  /-- 0x03 `EXT_ADDR_HI` -/
  extAddrHi : Word
  /-- 0x04 `MIN_BE` -/
  minBE : BitVec 4
  /-- 0x05 `MAX_BE` -/
  maxBE : BitVec 4
  /-- 0x06 `HP_WINDOW` -/
  hpWindow : BitVec 16
  /-- 0x07 `SLOT_TIME` -/
  slotTime : Word
  /-- 0x08 `MIN_CW_ATTEMPTS` -/
  minCwAttempts : BitVec 8
  /-- 0x09 `FAIR_LIMIT` -/
  fairLimit : BitVec 8
  /-- 0x0A `CSMA_A` -/
  csmaA : BitVec 8
  /-- 0x0B `CSMA_K` -/
  csmaK : BitVec 8
  /-- 0x0C `MAX_CSMA_BACKOFFS` -/
  maxCsmaBackoffs : BitVec 8
  /-- 0x0D `MAX_FRAME_RETRIES` -/
  maxFrameRetries : BitVec 8
  /-- 0x0E `ROBUST_BELOW` -/
  robustBelow : BitVec 8
  /-- 0x0F `MAC_FLAGS`: bit 0 `BCAST_MAX_CW`, bits 2..1 `FRAME_VERSION` -/
  macFlags : BitVec 3
  /-- 0x10 `EIFS_TIME` -/
  eifsTime : Word
  /-- 0x11 `CIFS_TIME` -/
  cifsTime : Word
  /-- 0x12 `RCIFS_TIME` -/
  rcifsTime : Word
  /-- 0x13 `CP_TIME` -/
  cpTime : Word
  /-- 0x14 `RIFS_TIME` -/
  rifsTime : Word
  /-- 0x15 `ACK_TIME` -/
  ackTime : Word
  /-- 0x16 `LEAD_TIME` -/
  leadTime : Word
  /-- 0x17 `TONE_MASK_0` -/
  toneMask0 : Word
  /-- 0x18 `TONE_MASK_1` -/
  toneMask1 : Word
  /-- 0x19 `TONE_MASK_2` -/
  toneMask2 : Word
  deriving DecidableEq, Repr

/-- The MAC Timing State: the parts of register 0x40 `STATE` that are state, and the two entry times
(`10_state.md` R35 to R38). `STATE.REQ_ACTIVE` is computed from `tx`. -/
structure MacBank where
  /-- `STATE.OCC` -/
  occ : Occ
  /-- `STATE.TX` -/
  tx : TxSub
  /-- `STATE.MORE_FRAG` -/
  moreFrag : Bool
  /-- `STATE.COMP_PENDING` -/
  compPending : Bool
  /-- `STATE.COMP_NBF` -/
  compNbf : Bool
  /-- `STATE.IMMEDIATE` -/
  immediate : Bool
  /-- 0x41 `OCC_ENTERED` -/
  occEntered : Word
  /-- 0x42 `TX_ENTERED` -/
  txEntered : Word
  deriving DecidableEq, Repr

/-- The registers of the CSMA/CA Backoff Engine (`10_state.md` R30, R31; `42_csma_backoff.md`). -/
structure CsmaBank where
  /-- 0x43 `CW` -/
  cw : BitVec 16
  /-- 0x44 `MIN_CW_STREAK` -/
  minCwStreak : BitVec 8
  /-- 0x45 `NB` -/
  nb : BitVec 8
  /-- 0x46 `NBF` -/
  nbf : BitVec 8
  /-- 0x4E `BACKOFF` -/
  backoff : Word
  /-- 0x4F `PERIOD_WAIT` -/
  periodWait : Word
  deriving DecidableEq, Repr

/-- The session's position, budget and sequence numbers and the on-air lengths (`10_state.md` R30, R32, R40). -/
structure SessBank where
  /-- 0x47 `RETRIES_LEFT` -/
  retriesLeft : BitVec 8
  /-- 0x48 `SEG_INDEX` -/
  segIndex : BitVec 6
  /-- 0x49 `SENT_OFFSET` -/
  sentOffset : BitVec 16
  /-- 0x4A `SEG_LEN` -/
  segLen : BitVec 10
  /-- 0x4B `TX_LEN` -/
  txLen : BitVec 12
  /-- 0x4C `TX_FCS` -/
  txFcs : BitVec 16
  /-- 0x50 `DSN` -/
  dsn : BitVec 8
  /-- 0x51 `REQ_SEQ` -/
  reqSeq : BitVec 8
  /-- 0x52 `TX_TIME` -/
  txTime : Word
  /-- 0x53 `MAX_SEG_PAYLOAD` -/
  maxSegPayload : BitVec 10
  deriving DecidableEq, Repr

/-- The rejection counters (`10_state.md` R39). -/
structure CntBank where
  /-- 0x58 `CNT_BAD_CRC` -/
  badCrc : Word
  /-- 0x59 `CNT_MALFORMED` -/
  malformed : Word
  /-- 0x5A `LAST_REJECT` -/
  lastReject : RejectCode
  deriving DecidableEq, Repr

/-- PHY Parameters Snapshot, registers 0x60 to 0x69 (`10_state.md` R34). -/
structure SnapBank where
  /-- 0x60 `SNAP_MOD.TYPE` -/
  modType : ModType
  /-- 0x60 `SNAP_MOD.SCHEME` -/
  scheme : Bool
  /-- 0x60 `SNAP_MOD.TWO_RS` -/
  twoRs : Bool
  /-- 0x61 `SNAP_TONE_MAP` -/
  toneMap : BitVec 24
  /-- 0x62 `SNAP_TONE_MASK_0` -/
  toneMask0 : Word
  /-- 0x63 `SNAP_TONE_MASK_1` -/
  toneMask1 : Word
  /-- 0x64 `SNAP_TONE_MASK_2` -/
  toneMask2 : Word
  /-- 0x65 `SNAP_GAIN` -/
  gain : Word
  /-- 0x66 `SNAP_BPC` -/
  bpc : BitVec 3
  /-- 0x67 `SNAP_REP` -/
  rep : BitVec 3
  /-- 0x68 `SNAP_PARITY` -/
  parity : BitVec 5
  /-- 0x69 `SNAP_MAX_PHY` -/
  maxPhy : BitVec 16
  deriving DecidableEq, Repr

/-- Transmit Request descriptor, registers 0x80 to 0x88 (`10_state.md` R29). `TXD_CTRL` is one software-written
word; its fields are read by the accessors of `Operands.lean`. -/
structure TxdBank where
  /-- 0x80 `TXD_LEN` -/
  len : BitVec 16
  /-- 0x81 `TXD_CTRL` -/
  ctrl : BitVec 16
  /-- 0x82 `TXD_DST_PAN` -/
  dstPan : BitVec 16
  /-- 0x83 `TXD_DST_LO` -/
  dstLo : Word
  /-- 0x84 `TXD_DST_HI` -/
  dstHi : Word
  /-- 0x85 `TXD_TONE_MAP` -/
  toneMap : BitVec 24
  /-- 0x86 `TXD_GAIN` -/
  gain : Word
  /-- 0x87 `TXD_SEC_LO` -/
  secLo : Word
  /-- 0x88 `TXD_SEC_HI` -/
  secHi : BitVec 16
  deriving DecidableEq, Repr

/-- The eleven registers of a frame header record: TXFR 0xA0 to 0xAA, RXFR 0xC0 to 0xCA (`10_state.md` R32, R33). -/
structure FrameBank where
  /-- `_SC`: `SEG_LEN`, `SEG_NUM`, `LSF`, `CAP`, `TMR` -/
  sc : BitVec 19
  /-- `_FC`: the frame control of R84 -/
  fc : BitVec 16
  /-- `_SEQ` -/
  seq : BitVec 8
  /-- `_DST_PAN` -/
  dstPan : BitVec 16
  /-- `_DST_LO` -/
  dstLo : Word
  /-- `_DST_HI` -/
  dstHi : Word
  /-- `_SRC_PAN` -/
  srcPan : BitVec 16
  /-- `_SRC_LO` -/
  srcLo : Word
  /-- `_SRC_HI` -/
  srcHi : Word
  /-- `_SEC_LO` -/
  secLo : Word
  /-- `_SEC_HI` -/
  secHi : BitVec 16
  deriving DecidableEq, Repr

/-- The receive frame record, registers 0xC0 to 0xCE (`10_state.md` R33). -/
structure RxBank where
  /-- 0xC0 to 0xCA -/
  header : FrameBank
  /-- 0xCB `RXFR_PAD_LEN` -/
  padLen : BitVec 12
  /-- 0xCC `RXFR_PAY_OFF` -/
  payOff : BitVec 12
  /-- 0xCD `RXFR_FCS` -/
  fcs : BitVec 16
  /-- 0xCE `RXFR_LEN` -/
  len : BitVec 12
  deriving DecidableEq, Repr

/-! ## The Frame record -/

/-- The abstract Frame record (`10_state.md` R28). A short address occupies bits 15..0 of its address; byte `k` of the
security header is bits `8k+7 .. 8k` of `secHdr`. -/
structure Frame where
  segLen : BitVec 10
  segNum : BitVec 6
  lsf : Bool
  cap : Bool
  tmr : Bool
  ftype : BitVec 3
  sec : Bool
  pending : Bool
  ackReq : Bool
  panComp : Bool
  dstMode : AddrMode
  version : BitVec 2
  srcMode : AddrMode
  seq : BitVec 8
  dstPan : BitVec 16
  srcPan : BitVec 16
  dstAddr : BitVec 64
  srcAddr : BitVec 64
  secHdr : BitVec 48
  payload : List Byte
  deriving DecidableEq, Repr

/-! ## Memory -/

/-- What a buffer byte that no entry lists reads as: `TXBUF` and `RXBUF` are 0 after reset (R43); for `REQMEM` the spec
gives no contents before the host writes it, and 0 is a DESIGN CHOICE (log entry 7, unsafe). -/
def unlistedByte : Byte := 0#8

/-- A buffer: (offset, byte) pairs, offsets strictly rising, no entry equal to `unlistedByte` (`Memory.wf`). -/
abbrev Memory := List Host.Cell

/-! ## The command port -/

/-- One turn of the environment at the block's ports (R5, R60, R69). DESIGN CHOICE: the turns to come stand in
`State.inputs` (log entries 1 and 2). -/
inductive Input where
  /-- an operation with the draws of its step: `Now` (port `CLK_TICK`) and `Rnd` (port `RND`), R6 -/
  | command (now : Word) (rnd : BitVec 16) (cmd : Command)
  /-- the host writes one byte of `REQMEM` through its own memory port (R60, R61) -/
  | reqmemWrite (off : BitVec 16) (b : Byte)
  /-- the PHY, or the host before a unit operation, writes one byte of `RXBUF` (R60, R63) -/
  | rxbufWrite (off : BitVec 11) (b : Byte)
  deriving DecidableEq, Repr

/-- The kind of an acknowledgement request (R104): 0 ACK, 1 NACK. -/
inductive AckKind where
  | ack
  | nack
  deriving DecidableEq, Repr

/-- Output events of a step (`30_encoding.md` R104). -/
inductive Effect where
  /-- 0x80: schedule a delayed transmission -/
  | phyTxReq (len : BitVec 12) (ackReq sense moreFrag : Bool) (time : Word) (bytes : List Byte)
  /-- 0x81: schedule a delayed acknowledgement -/
  | phyAckReq (kind : AckKind) (more : Bool) (fcs : BitVec 16) (time : Word)
  /-- 0x82: set transmit parameters; `mod` is the image of `SNAP_MOD` -/
  | phySetParams (mod : BitVec 5) (toneMap : BitVec 24) (toneMask : BitVec 96) (gain : Word)
  /-- 0x90: the outcome callback -/
  | txConfirm (outcome : TxOutcome) (modType : ModType) (scheme : Bool)
  /-- 0x91: the received-frame callback -/
  | dataInd (rxfr : RxBank) (payload : List Byte) (time : Word)
  /-- 0x92: the answer of `GET`; `valid` false is status `INVALID` -/
  | getConfirm (reg : BitVec 8) (valid : Bool) (value : Word)
  deriving DecidableEq, Repr

/-! ## State, Fault, Refusal -/

/-- The state of the block (R20) with its command port. -/
structure State where
  /-- registers 0x00 to 0x19 -/
  cfg : CfgBank
  /-- registers 0x40 to 0x42 -/
  mac : MacBank
  /-- registers 0x43 to 0x46, 0x4E, 0x4F -/
  csma : CsmaBank
  /-- registers 0x47 to 0x4C, 0x50 to 0x53 -/
  sess : SessBank
  /-- registers 0x58 to 0x5A -/
  cnt : CntBank
  /-- registers 0x60 to 0x69 -/
  snap : SnapBank
  /-- registers 0x80 to 0x88 -/
  txd : TxdBank
  /-- registers 0xA0 to 0xAA -/
  txfr : FrameBank
  /-- registers 0xC0 to 0xCE -/
  rxfr : RxBank
  /-- the on-air frame buffer, 2048 bytes (R60, R62) -/
  txbuf : Memory
  /-- the receive buffer, 2048 bytes (R60, R63) -/
  rxbuf : Memory
  /-- the request payload memory, 65536 bytes, written by the host only (R60, R61) -/
  reqmem : Memory
  /-- the model's own: the environment's turns not yet presented, the next first (log entry 1) -/
  inputs : List Input
  /-- `Now` as sampled by the operation being executed (R6; log entry 3) -/
  now : Word
  /-- `Rnd` as sampled by the operation being executed (R6; log entry 3) -/
  rnd : BitVec 16
  /-- the response word of the step just made, none when it executed no operation (R103; log entry 4) -/
  response : Option Word
  /-- the effects of the step just made, in the order emitted (R104; log entry 4) -/
  effects : List Effect
  deriving DecidableEq, Repr

/-- Why the machine stops. The spec's step is total (R6); both faults are of states that no run from reset reaches. -/
inductive Fault where
  /-- `WAIT_SEND` has to read `TXBUF[0 .. TX_LEN-1]` and `TX_LEN` exceeds the 2048 bytes `TXBUF` has (R60, R65).
  Raised by `POLL`. Safe: the machine stops where it would read bytes that do not exist (log entry 9). -/
  | txLenBeyondTxbuf
  /-- `START` has to load the snapshot and `TXD_CTRL.MOD_TYPE` exceeds 4, which `TXREQ` refuses (R157, R205). Raised by
  `POLL`. Safe: the machine stops where the spec says the procedure is not called (log entry 10). -/
  | reservedModType
  deriving DecidableEq, Repr

/-- Why an instruction is not executed. -/
inductive Refusal where
  /-- The instruction has no meaning in this model. Raised by `exec`'s arms alone; no arm does. Safe. -/
  | notModelled (mnemonic : String)
  deriving DecidableEq, Repr

/-! ## Reset -/

/-- The configuration bank after power-on (`10_state.md` R24 to R27). -/
def CfgBank.reset : CfgBank :=
  { panId := 0xFFFF#16, shortAddr := 0xFFFF#16, extAddrLo := 0#32, extAddrHi := 0#32,
    minBE := 3#4, maxBE := 8#4, hpWindow := 7#16, slotTime := 0#32, minCwAttempts := 10#8, fairLimit := 25#8,
    csmaA := 8#8, csmaK := 5#8, maxCsmaBackoffs := 50#8, maxFrameRetries := 5#8, robustBelow := 2#8,
    macFlags := 0#3, eifsTime := 0#32, cifsTime := 0#32, rcifsTime := 0#32, cpTime := 0#32, rifsTime := 0#32,
    ackTime := 0#32, leadTime := 0#32,
    toneMask0 := 0xFFFFFFFF#32, toneMask1 := 0xFFFFFFFF#32, toneMask2 := 0xFFFFFFFF#32 }

/-- `STATE = 0` and both entry times 0 (R35 to R38). -/
def MacBank.reset : MacBank :=
  { occ := .idle, tx := .none, moreFrag := false, compPending := false, compNbf := false, immediate := false,
    occEntered := 0#32, txEntered := 0#32 }

/-- `CW` as given, all else 0 (R30, R31). -/
def CsmaBank.resetWith (cw : BitVec 16) : CsmaBank :=
  { cw := cw, minCwStreak := 0#8, nb := 0#8, nbf := 0#8, backoff := 0#32, periodWait := 0#32 }

/-- All 0 (R30, R32, R40). -/
def SessBank.reset : SessBank :=
  { retriesLeft := 0#8, segIndex := 0#6, sentOffset := 0#16, segLen := 0#10, txLen := 0#12, txFcs := 0#16,
    dsn := 0#8, reqSeq := 0#8, txTime := 0#32, maxSegPayload := 0#10 }

/-- All 0 (R39). -/
def CntBank.reset : CntBank := { badCrc := 0#32, malformed := 0#32, lastReject := .none }

/-- All 0 (R34). -/
def SnapBank.reset : SnapBank :=
  { modType := .robust, scheme := false, twoRs := false, toneMap := 0#24, toneMask0 := 0#32, toneMask1 := 0#32,
    toneMask2 := 0#32, gain := 0#32, bpc := 0#3, rep := 0#3, parity := 0#5, maxPhy := 0#16 }

/-- All 0 (R29). -/
def TxdBank.reset : TxdBank :=
  { len := 0#16, ctrl := 0#16, dstPan := 0#16, dstLo := 0#32, dstHi := 0#32, toneMap := 0#24, gain := 0#32,
    secLo := 0#32, secHi := 0#16 }

/-- All 0 (R32). -/
def FrameBank.reset : FrameBank :=
  { sc := 0#19, fc := 0#16, seq := 0#8, dstPan := 0#16, dstLo := 0#32, dstHi := 0#32, srcPan := 0#16,
    srcLo := 0#32, srcHi := 0#32, secLo := 0#32, secHi := 0#16 }

/-- All 0 (R33). -/
def RxBank.reset : RxBank :=
  { header := FrameBank.reset, padLen := 0#12, payOff := 0#12, fcs := 0#16, len := 0#12 }

/-- The machine after power-on, before the first command (R43, R202): every register at its reset value,
`CW = 2^3`, both frame buffers 0, nothing presented and nothing emitted. `REQMEM` lists nothing (log entry 7) and the
ports sample 0 (DESIGN CHOICE, log entry 3). -/
def State.reset : State :=
  { cfg := CfgBank.reset, mac := MacBank.reset, csma := CsmaBank.resetWith 8#16, sess := SessBank.reset,
    cnt := CntBank.reset, snap := SnapBank.reset, txd := TxdBank.reset, txfr := FrameBank.reset,
    rxfr := RxBank.reset, txbuf := [], rxbuf := [], reqmem := [], inputs := [], now := 0#32, rnd := 0#16,
    response := none, effects := [] }

end Sys2Proof.Machine
end

