-- ==== Sys2Proof/Machine/Ops.lean ====
section
/-! DEFINITION. The named operations every rule is written over: the byte memories, the virtual clock, the response
word and the effect list, the state tags, the rejection counters, and `conclude`, which is this block's "taking an
exception" (`60_exceptions.md` R290). There is no return from one (R291). -/

namespace Sys2Proof.Machine

/-! ## Memory (`00_scope.md` R11, `20_memory.md` R65) -/

/-- The byte at one offset. -/
def Memory.read (m : Memory) (a : Nat) : Byte :=
  match m.lookup a with
  | some b => b
  | none => unlistedByte

/-- `MemRead(S, a, n)`: the `n` bytes at offsets `a .. a+n-1`, lowest offset first. -/
def Memory.readRun (m : Memory) (a n : Nat) : List Byte :=
  (List.range n).map (fun k => Memory.read m (a + k))

/-- The entries that list a run of bytes from offset `a`. -/
def Memory.cellsFrom (a : Nat) (bs : List Byte) : Memory :=
  match bs with
  | [] => []
  | b :: rest =>
    if b = unlistedByte then Memory.cellsFrom (a + 1) rest else (a, b) :: Memory.cellsFrom (a + 1) rest

/-- `MemWrite(S, a, n, bs)` with `n` the length of `bs`: the run replaces what stood there, and a byte equal to what an
unlisted offset reads as is not listed. -/
def Memory.writeRun (m : Memory) (a : Nat) (bs : List Byte) : Memory :=
  m.filter (fun c => decide (c.1 < a)) ++ Memory.cellsFrom a bs ++
    m.filter (fun c => decide (a + bs.length ≤ c.1))

/-- A write of one byte. -/
def Memory.write (m : Memory) (a : Nat) (b : Byte) : Memory := Memory.writeRun m a [b]

/-- The canonical form: offsets strictly rising, no entry equal to what an unlisted offset reads as. -/
def Memory.wf (m : Memory) : Bool :=
  decide (m.Pairwise (fun c d => c.1 < d.1)) && m.all (fun c => decide (c.2 ≠ unlistedByte))

/-- Every listed offset is inside a space of `size` bytes (R60). -/
def Memory.within (m : Memory) (size : Nat) : Bool := m.all (fun c => decide (c.1 < size))

/-! ## The virtual clock -/

/-- `elapsed(t0) = (Now - t0) mod 2^32` (R12). -/
def elapsed (now t0 : Word) : Word := now - t0

/-- "`t0` is before `now`": bit 31 of the 32-bit difference (R236). -/
def isBefore (t0 now : Word) : Bool := (t0 - now).msb

/-! ## Response word -/

/-- Response code numbers (R103). -/
def rspCodeNum (c : RspCode) : BitVec 8 :=
  match c with
  | .ok => 0#8
  | .errIllegal => 1#8
  | .errBusy => 2#8
  | .errParam => 3#8
  | .errRo => 4#8
  | .errReg => 5#8
  | .rejected => 6#8

/-- `RSP[31:8]` is the result, `RSP[7:0]` the code (R103). -/
def rspWord (c : RspCode) (result : BitVec 24) : Word := result ++ rspCodeNum c

/-- `respond c, result` (R11, R103). -/
def State.respond (s : State) (c : RspCode) (result : BitVec 24) : State :=
  { s with response := some (rspWord c result) }

/-- `emit e` (R11): the effect is appended to the step's list. -/
def State.emit (s : State) (e : Effect) : State := { s with effects := s.effects ++ [e] }

/-! ## State tags -/

/-- `enter_occ(o)`: the tag and its entry time (R11). -/
def State.enterOcc (s : State) (o : Occ) : State :=
  { s with mac := { s.mac with occ := o, occEntered := s.now } }

/-- `STATE.TX <- t`. -/
def State.setTx (s : State) (t : TxSub) : State := { s with mac := { s.mac with tx := t } }

/-- A Transmit Request is active: `STATE.TX != NONE` (R23, R35). -/
def State.busy (s : State) : Bool := decide (s.mac.tx ≠ .none)

/-! ## Concluding a request: the place of taking an exception -/

/-- `conclude(outcome)` (R225, R290): `TX_CONFIRM` with the final modulation, `STATE.TX <- NONE`, three flags cleared;
nothing is saved and nothing else changes. -/
def State.conclude (s : State) (o : TxOutcome) : State :=
  { s with
    effects := s.effects ++ [.txConfirm o s.snap.modType s.snap.scheme]
    mac := { s.mac with tx := .none, compPending := false, compNbf := false, immediate := false } }

/-! ## Rejected frames -/

/-- What a frame rejection records (R131, R281): one counter up by one modulo 2^32, and `LAST_REJECT`. -/
def CntBank.record (c : CntBank) (code : RejectCode) : CntBank :=
  if code = .badCrc then { c with badCrc := c.badCrc + 1#32, lastReject := code }
  else { c with malformed := c.malformed + 1#32, lastReject := code }

/-! ## The shape of an operation -/

/-- A step that takes no other path: the next state. -/
def answer (s : State) : Host.Outcome State Fault Refusal := .next s

/-- A command error: the response alone (R282). -/
def refuseWith (s : State) (c : RspCode) : Host.Outcome State Fault Refusal := .next (s.respond c 0#24)

/-- A unit operation: `ERR_BUSY` without effect while a request is active, else its function (R100, R283). -/
def unitOp (s : State) (f : State → State) : Host.Outcome State Fault Refusal :=
  if s.busy then refuseWith s .errBusy else .next (f s)

end Sys2Proof.Machine
end

