-- ==== Sys2Proof/Machine/Operands.lean ====
section
/-! DEFINITION. Field codes, the fields of the software-written words (`MAC_FLAGS`, `TXD_CTRL`, `_SC`, `_FC`), byte
order, and the correspondence between a Frame record and its register bank. -/

namespace Sys2Proof.Machine

/-! ## Codes -/

/-- Occupancy tag numbers (R36). -/
def occBits (o : Occ) : BitVec 3 :=
  match o with
  | .idle => 0#3
  | .eifs => 1#3
  | .cifs => 2#3
  | .rcifs => 3#3
  | .cp => 4#3
  | .rifs => 5#3

/-- Transmit sub-state tag numbers (R37). -/
def txBits (t : TxSub) : BitVec 4 :=
  match t with
  | .none => 0#4
  | .start => 1#4
  | .csmaCa => 2#4
  | .waitSend => 3#4
  | .waitConfirm => 4#4
  | .failCsmaCa => 5#4
  | .waitAck => 6#4
  | .sendOk => 7#4
  | .littleFail => 8#4
  | .bigFail => 9#4

/-- Rejection code numbers (R281). -/
def rejectBits (r : RejectCode) : BitVec 4 :=
  match r with
  | .none => 0#4
  | .short => 1#4
  | .badCrc => 2#4
  | .badType => 3#4
  | .pending => 4#4
  | .badAddrMode => 5#4
  | .length => 6#4
  | .srcUndefined => 7#4

/-- Outcome numbers (R285). -/
def outcomeBits (o : TxOutcome) : BitVec 3 :=
  match o with
  | .success => 0#3
  | .noAck => 1#3
  | .channelAccessFailure => 2#3
  | .transactionOverflow => 3#3
  | .denied => 4#3

/-- Modulation type numbers (R34). -/
def modBits (t : ModType) : BitVec 3 :=
  match t with
  | .robust => 0#3
  | .bpsk => 1#3
  | .qpsk => 2#3
  | .psk8 => 3#3
  | .qam16 => 4#3

/-- The modulation type of a 3-bit hint; none for the values above 4, which `TXREQ` and `PHYCALC` refuse (R34, R205). -/
def modOf (b : BitVec 3) : Option ModType :=
  if b = 0#3 then some .robust
  else if b = 1#3 then some .bpsk
  else if b = 2#3 then some .qpsk
  else if b = 3#3 then some .psk8
  else if b = 4#3 then some .qam16
  else none

/-- Addressing mode numbers (R28). -/
def addrModeBits (m : AddrMode) : BitVec 2 :=
  match m with
  | .none => 0#2
  | .reserved => 1#2
  | .short => 2#2
  | .extended => 3#2

/-- The addressing mode of a 2-bit field (R28). -/
def addrModeOf (b : BitVec 2) : AddrMode :=
  if b = 0#2 then .none else if b = 1#2 then .reserved else if b = 2#2 then .short else .extended

/-- Acknowledgement kind bit (R104). -/
def ackKindBit (k : AckKind) : Bool :=
  match k with
  | .ack => false
  | .nack => true

/-! ## Fields of software-written words -/

/-- `MAC_FLAGS.BCAST_MAX_CW` (R26). -/
def CfgBank.bcastMaxCw (c : CfgBank) : Bool := c.macFlags.getLsbD 0

/-- `MAC_FLAGS.FRAME_VERSION` (R26). -/
def CfgBank.frameVersion (c : CfgBank) : BitVec 2 := c.macFlags.extractLsb' 1 2

/-- `{EXT_ADDR_HI, EXT_ADDR_LO}` (R24, R64). -/
def CfgBank.extAddr (c : CfgBank) : BitVec 64 := c.extAddrHi ++ c.extAddrLo

/-- `ACK_WAIT = (RIFS_TIME + ACK_TIME + CIFS_TIME) mod 2^32` (R27). -/
def CfgBank.ackWait (c : CfgBank) : Word := c.rifsTime + c.ackTime + c.cifsTime

/-- `TXD_CTRL.ACK_REQ` (R29). -/
def TxdBank.ackReq (t : TxdBank) : Bool := t.ctrl.getLsbD 0

/-- `TXD_CTRL.PRIO` (R29). -/
def TxdBank.prio (t : TxdBank) : Bool := t.ctrl.getLsbD 1

/-- `TXD_CTRL.FORCE` (R29). -/
def TxdBank.force (t : TxdBank) : Bool := t.ctrl.getLsbD 2

/-- `TXD_CTRL.TMR` (R29). -/
def TxdBank.tmr (t : TxdBank) : Bool := t.ctrl.getLsbD 3

/-- `TXD_CTRL.SEC` (R29). -/
def TxdBank.sec (t : TxdBank) : Bool := t.ctrl.getLsbD 4

/-- `TXD_CTRL.CAP` (R29). -/
def TxdBank.cap (t : TxdBank) : Bool := t.ctrl.getLsbD 5

/-- `TXD_CTRL.PAN_COMP` (R29). -/
def TxdBank.panComp (t : TxdBank) : Bool := t.ctrl.getLsbD 6

/-- `TXD_CTRL.TWO_RS` (R29). -/
def TxdBank.twoRs (t : TxdBank) : Bool := t.ctrl.getLsbD 7

/-- `TXD_CTRL.DST_MODE` (R29). -/
def TxdBank.dstMode (t : TxdBank) : AddrMode := addrModeOf (t.ctrl.extractLsb' 8 2)

/-- `TXD_CTRL.SRC_MODE` (R29). -/
def TxdBank.srcMode (t : TxdBank) : AddrMode := addrModeOf (t.ctrl.extractLsb' 10 2)

/-- `TXD_CTRL.MOD_TYPE` as its three bits (R29). -/
def TxdBank.modTypeBits (t : TxdBank) : BitVec 3 := t.ctrl.extractLsb' 12 3

/-- `TXD_CTRL.MOD_SCHEME` (R29). -/
def TxdBank.modScheme (t : TxdBank) : Bool := t.ctrl.getLsbD 15

/-- `{TXD_DST_HI, TXD_DST_LO}` (R29, R64). -/
def TxdBank.dstAddr (t : TxdBank) : BitVec 64 := t.dstHi ++ t.dstLo

/-- `{TXD_SEC_HI, TXD_SEC_LO}` (R29, R192). -/
def TxdBank.secHdr (t : TxdBank) : BitVec 48 := t.secHi ++ t.secLo

/-- An addressing mode of the descriptor is the reserved value 1 (R196, R205). -/
def TxdBank.modeReserved (t : TxdBank) : Bool :=
  decide (t.dstMode = .reserved) || decide (t.srcMode = .reserved)

/-- `isBroadcast` (R226). -/
def TxdBank.isBroadcast (t : TxdBank) : Bool :=
  decide (t.dstMode = .short) && decide (t.dstLo.extractLsb' 0 16 = Config.shortAddrBroadcast)

/-- The image of `SNAP_MOD`: `TWO_RS`, `SCHEME`, `TYPE` from bit 4 down (R34). -/
def SnapBank.modImage (b : SnapBank) : BitVec 5 :=
  BitVec.ofBool b.twoRs ++ BitVec.ofBool b.scheme ++ modBits b.modType

/-- `{SNAP_TONE_MASK_2, SNAP_TONE_MASK_1, SNAP_TONE_MASK_0}` (R151). -/
def SnapBank.toneMask (b : SnapBank) : BitVec 96 := b.toneMask2 ++ b.toneMask1 ++ b.toneMask0

/-- The calculator's input record (R151). -/
def SnapBank.snapIn (b : SnapBank) : SnapIn :=
  { type := b.modType, scheme := b.scheme, twoRs := b.twoRs, toneMap := b.toneMap, toneMask := b.toneMask,
    gain := b.gain }

/-! ## Byte order (`20_memory.md` R64, `00_scope.md` R11) -/

/-- `bytes_le(v, n)`: the `n` low bytes of `v`, least significant first. -/
def bytesLe {w : Nat} (v : BitVec w) (n : Nat) : List Byte :=
  (List.range n).map (fun k => v.extractLsb' (8 * k) 8)

/-- The number a byte list stands for, least significant byte first. -/
def leNat (bs : List Byte) : Nat :=
  match bs with
  | [] => 0
  | b :: rest => b.toNat + 256 * leNat rest

/-- The `n` bytes of `b` at offset `p`, least significant first, as a number of `w` bits (`le16`, `le64`). -/
def leAt (w : Nat) (b : List Byte) (p n : Nat) : BitVec w := BitVec.ofNat w (leNat ((b.drop p).take n))

/-- Byte `p` of a byte list. -/
def byteAt (b : List Byte) (p : Nat) : Byte := b.getD p 0#8

/-! ## Segment control and frame control -/

/-- The register image of the segment-control fields (R32, R134): `segLen | segNum<<10 | lsf<<16 | cap<<17 | tmr<<18`. -/
def scImage (f : Frame) : BitVec 19 :=
  BitVec.ofBool f.tmr ++ BitVec.ofBool f.cap ++ BitVec.ofBool f.lsf ++ f.segNum ++ f.segLen

/-- The 16-bit frame control (R84); bits 9..7 are 0. -/
def fcImage (f : Frame) : BitVec 16 :=
  addrModeBits f.srcMode ++ f.version ++ addrModeBits f.dstMode ++ 0#3 ++ BitVec.ofBool f.panComp ++
    BitVec.ofBool f.ackReq ++ BitVec.ofBool f.pending ++ BitVec.ofBool f.sec ++ f.ftype

/-- The three bytes of segment control (R83). -/
def segControlBytes (f : Frame) : List Byte :=
  [0#4 ++ BitVec.ofBool f.tmr ++ 0#1 ++ BitVec.ofBool f.cap ++ BitVec.ofBool f.lsf,
   f.segNum ++ f.segLen.extractLsb' 8 2,
   f.segLen.extractLsb' 0 8]

/-- The Frame record of the fields in a segment-control image, a frame-control word and a sequence number; addresses
and security header 0, no payload (R83, R84). Bits 9..7 of the frame control are ignored. -/
def frameOfControl (sc : BitVec 19) (fc : BitVec 16) (seq : BitVec 8) : Frame :=
  { segLen := sc.extractLsb' 0 10, segNum := sc.extractLsb' 10 6, lsf := sc.getLsbD 16, cap := sc.getLsbD 17,
    tmr := sc.getLsbD 18, ftype := fc.extractLsb' 0 3, sec := fc.getLsbD 3, pending := fc.getLsbD 4,
    ackReq := fc.getLsbD 5, panComp := fc.getLsbD 6, dstMode := addrModeOf (fc.extractLsb' 10 2),
    version := fc.extractLsb' 12 2, srcMode := addrModeOf (fc.extractLsb' 14 2), seq := seq,
    dstPan := 0#16, srcPan := 0#16, dstAddr := 0#64, srcAddr := 0#64, secHdr := 0#48, payload := [] }

/-- `frameOf(TXFR)` with no payload (R32). -/
def FrameBank.toFrame (b : FrameBank) : Frame :=
  { frameOfControl b.sc b.fc b.seq with
    dstPan := b.dstPan
    srcPan := b.srcPan
    dstAddr := b.dstHi ++ b.dstLo
    srcAddr := b.srcHi ++ b.srcLo
    secHdr := b.secHi ++ b.secLo }

/-- The register image of a Frame record (R134). -/
def FrameBank.ofFrame (f : Frame) : FrameBank :=
  { sc := scImage f, fc := fcImage f, seq := f.seq, dstPan := f.dstPan,
    dstLo := f.dstAddr.extractLsb' 0 32, dstHi := f.dstAddr.extractLsb' 32 32, srcPan := f.srcPan,
    srcLo := f.srcAddr.extractLsb' 0 32, srcHi := f.srcAddr.extractLsb' 32 32,
    secLo := f.secHdr.extractLsb' 0 32, secHi := f.secHdr.extractLsb' 32 16 }

end Sys2Proof.Machine
end

