-- ==== Sys2Proof/Machine/Flags.lean ====
section
/-! DEFINITION. The flags of `STATE` (`10_state.md` R38), the `STATE` word (R35), and the saturating counters
(`42_csma_backoff.md` R182). -/

namespace Sys2Proof.Machine

/-- The `STATE` register, 13 bits (R35): `IMMEDIATE`, `COMP_NBF`, `COMP_PENDING`, `MORE_FRAG`, `REQ_ACTIVE`, `TX`,
a zero bit, `OCC` from bit 12 down. `REQ_ACTIVE` is 1 exactly when `TX` is not `NONE`. -/
def MacBank.stateBits (m : MacBank) : BitVec 13 :=
  BitVec.ofBool m.immediate ++ BitVec.ofBool m.compNbf ++ BitVec.ofBool m.compPending ++
    BitVec.ofBool m.moreFrag ++ BitVec.ofBool (decide (m.tx ≠ .none)) ++ txBits m.tx ++ 0#1 ++ occBits m.occ

/-- `STATE.COMP_PENDING <- 0; STATE.COMP_NBF <- 0`. -/
def State.clearComp (s : State) : State :=
  { s with mac := { s.mac with compPending := false, compNbf := false } }

/-- `STATE.COMP_PENDING <- 1; STATE.COMP_NBF <- nbf` (R246). -/
def State.armComp (s : State) (nbf : Bool) : State :=
  { s with mac := { s.mac with compPending := true, compNbf := nbf } }

/-- `STATE.IMMEDIATE <- b`. -/
def State.setImmediate (s : State) (b : Bool) : State := { s with mac := { s.mac with immediate := b } }

/-- `sat8(v + 1)` (R11, R182). -/
def sat8Inc (v : BitVec 8) : BitVec 8 := BitVec.ofNat 8 (min (v.toNat + 1) 255)

/-- `v - 1` if `v > 0`, else `v` (R183). -/
def decIfPositive (v : BitVec 8) : BitVec 8 := if v = 0#8 then v else v - 1#8

end Sys2Proof.Machine
end

