-- ==== Sys2Proof/Machine/Registers.lean ====
section
/-! DEFINITION. The register space (`10_state.md` R22, `20_memory.md` R67): which numbers are implemented, what each
reads as, which are `RW`, and what a write stores. Numbers not listed here are unimplemented. -/

namespace Sys2Proof.Machine

/-- Configuration registers (R24 to R27). -/
inductive CfgReg where
  | panId | shortAddr | extAddrLo | extAddrHi
  | minBE | maxBE | hpWindow | slotTime | minCwAttempts | fairLimit | csmaA | csmaK | maxCsmaBackoffs
  | maxFrameRetries | robustBelow | macFlags
  | eifsTime | cifsTime | rcifsTime | cpTime | rifsTime | ackTime | leadTime
  | toneMask0 | toneMask1 | toneMask2
  deriving DecidableEq, Repr

/-- Status registers (R30 to R32, R35, R40). -/
inductive StatusReg where
  | state | occEntered | txEntered | cw | minCwStreak | nb | nbf | retriesLeft | segIndex | sentOffset | segLen
  | txLen | txFcs | backoff | periodWait | dsn | reqSeq | txTime | maxSegPayload
  deriving DecidableEq, Repr

/-- Rejection counters (R39). -/
inductive CntReg where
  | badCrc | malformed | lastReject
  deriving DecidableEq, Repr

/-- PHY Parameters Snapshot (R34). -/
inductive SnapReg where
  | mod | toneMap | toneMask0 | toneMask1 | toneMask2 | gain | bpc | rep | parity | maxPhy
  deriving DecidableEq, Repr

/-- Transmit Request descriptor (R29). -/
inductive TxdReg where
  | len | ctrl | dstPan | dstLo | dstHi | toneMap | gain | secLo | secHi
  deriving DecidableEq, Repr

/-- The header registers TXFR and RXFR share (R32, R33). -/
inductive FrameReg where
  | sc | fc | seq | dstPan | dstLo | dstHi | srcPan | srcLo | srcHi | secLo | secHi
  deriving DecidableEq, Repr

/-- The four further registers of RXFR (R33). -/
inductive RxReg where
  | padLen | payOff | fcs | len
  deriving DecidableEq, Repr

/-- An implemented register. -/
inductive Reg where
  | cfg (r : CfgReg)
  | status (r : StatusReg)
  | cnt (r : CntReg)
  | snap (r : SnapReg)
  | txd (r : TxdReg)
  | txfr (r : FrameReg)
  | rxfr (r : FrameReg)
  | rx (r : RxReg)
  deriving DecidableEq, Repr

/-! ## Numbers -/

/-- Register numbers of the configuration bank (R24 to R27). -/
def cfgNum (r : CfgReg) : BitVec 8 :=
  match r with
  | .panId => 0x00#8
  | .shortAddr => 0x01#8
  | .extAddrLo => 0x02#8
  | .extAddrHi => 0x03#8
  | .minBE => 0x04#8
  | .maxBE => 0x05#8
  | .hpWindow => 0x06#8
  | .slotTime => 0x07#8
  | .minCwAttempts => 0x08#8
  | .fairLimit => 0x09#8
  | .csmaA => 0x0A#8
  | .csmaK => 0x0B#8
  | .maxCsmaBackoffs => 0x0C#8
  | .maxFrameRetries => 0x0D#8
  | .robustBelow => 0x0E#8
  | .macFlags => 0x0F#8
  | .eifsTime => 0x10#8
  | .cifsTime => 0x11#8
  | .rcifsTime => 0x12#8
  | .cpTime => 0x13#8
  | .rifsTime => 0x14#8
  | .ackTime => 0x15#8
  | .leadTime => 0x16#8
  | .toneMask0 => 0x17#8
  | .toneMask1 => 0x18#8
  | .toneMask2 => 0x19#8

/-- Register numbers of the status bank; 0x4D is unimplemented (R67). -/
def statusNum (r : StatusReg) : BitVec 8 :=
  match r with
  | .state => 0x40#8
  | .occEntered => 0x41#8
  | .txEntered => 0x42#8
  | .cw => 0x43#8
  | .minCwStreak => 0x44#8
  | .nb => 0x45#8
  | .nbf => 0x46#8
  | .retriesLeft => 0x47#8
  | .segIndex => 0x48#8
  | .sentOffset => 0x49#8
  | .segLen => 0x4A#8
  | .txLen => 0x4B#8
  | .txFcs => 0x4C#8
  | .backoff => 0x4E#8
  | .periodWait => 0x4F#8
  | .dsn => 0x50#8
  | .reqSeq => 0x51#8
  | .txTime => 0x52#8
  | .maxSegPayload => 0x53#8

/-- Register numbers of the counters (R39). -/
def cntNum (r : CntReg) : BitVec 8 :=
  match r with
  | .badCrc => 0x58#8
  | .malformed => 0x59#8
  | .lastReject => 0x5A#8

/-- Register numbers of the snapshot (R34). -/
def snapNum (r : SnapReg) : BitVec 8 :=
  match r with
  | .mod => 0x60#8
  | .toneMap => 0x61#8
  | .toneMask0 => 0x62#8
  | .toneMask1 => 0x63#8
  | .toneMask2 => 0x64#8
  | .gain => 0x65#8
  | .bpc => 0x66#8
  | .rep => 0x67#8
  | .parity => 0x68#8
  | .maxPhy => 0x69#8

/-- Register numbers of the descriptor (R29). -/
def txdNum (r : TxdReg) : BitVec 8 :=
  match r with
  | .len => 0x80#8
  | .ctrl => 0x81#8
  | .dstPan => 0x82#8
  | .dstLo => 0x83#8
  | .dstHi => 0x84#8
  | .toneMap => 0x85#8
  | .gain => 0x86#8
  | .secLo => 0x87#8
  | .secHi => 0x88#8

/-- The place of a header register in its bank: 0xA0 or 0xC0 plus this (R32, R33). -/
def frameRegOffset (r : FrameReg) : BitVec 8 :=
  match r with
  | .sc => 0#8
  | .fc => 1#8
  | .seq => 2#8
  | .dstPan => 3#8
  | .dstLo => 4#8
  | .dstHi => 5#8
  | .srcPan => 6#8
  | .srcLo => 7#8
  | .srcHi => 8#8
  | .secLo => 9#8
  | .secHi => 10#8

/-- Register numbers of the four further RXFR registers (R33). -/
def rxNum (r : RxReg) : BitVec 8 :=
  match r with
  | .padLen => 0xCB#8
  | .payOff => 0xCC#8
  | .fcs => 0xCD#8
  | .len => 0xCE#8

/-- The number of a register (R67). -/
def regNum (r : Reg) : BitVec 8 :=
  match r with
  | .cfg r => cfgNum r
  | .status r => statusNum r
  | .cnt r => cntNum r
  | .snap r => snapNum r
  | .txd r => txdNum r
  | .txfr r => 0xA0#8 + frameRegOffset r
  | .rxfr r => 0xC0#8 + frameRegOffset r
  | .rx r => rxNum r

/-- The header registers in order. -/
def frameRegs : List FrameReg :=
  [.sc, .fc, .seq, .dstPan, .dstLo, .dstHi, .srcPan, .srcLo, .srcHi, .secLo, .secHi]

/-- Every implemented register, in the order of their numbers (R67). -/
def allRegs : List Reg :=
  ([.panId, .shortAddr, .extAddrLo, .extAddrHi, .minBE, .maxBE, .hpWindow, .slotTime, .minCwAttempts, .fairLimit,
    .csmaA, .csmaK, .maxCsmaBackoffs, .maxFrameRetries, .robustBelow, .macFlags, .eifsTime, .cifsTime, .rcifsTime,
    .cpTime, .rifsTime, .ackTime, .leadTime, .toneMask0, .toneMask1, .toneMask2] : List CfgReg).map .cfg ++
  ([.state, .occEntered, .txEntered, .cw, .minCwStreak, .nb, .nbf, .retriesLeft, .segIndex, .sentOffset, .segLen,
    .txLen, .txFcs, .backoff, .periodWait, .dsn, .reqSeq, .txTime, .maxSegPayload] : List StatusReg).map .status ++
  ([.badCrc, .malformed, .lastReject] : List CntReg).map .cnt ++
  ([.mod, .toneMap, .toneMask0, .toneMask1, .toneMask2, .gain, .bpc, .rep, .parity, .maxPhy] : List SnapReg).map
    .snap ++
  ([.len, .ctrl, .dstPan, .dstLo, .dstHi, .toneMap, .gain, .secLo, .secHi] : List TxdReg).map .txd ++
  frameRegs.map .txfr ++ frameRegs.map .rxfr ++
  ([.padLen, .payOff, .fcs, .len] : List RxReg).map .rx

/-- The register a number names, none when it is unimplemented (R22, R67). -/
def regOf (n : BitVec 8) : Option Reg := allRegs.find? (fun r => decide (regNum r = n))

/-! ## Reading (`10_state.md` R22: fields zero-extend) -/

/-- A configuration register. -/
def CfgBank.get (c : CfgBank) (r : CfgReg) : Word :=
  match r with
  | .panId => c.panId.setWidth 32
  | .shortAddr => c.shortAddr.setWidth 32
  | .extAddrLo => c.extAddrLo
  | .extAddrHi => c.extAddrHi
  | .minBE => c.minBE.setWidth 32
  | .maxBE => c.maxBE.setWidth 32
  | .hpWindow => c.hpWindow.setWidth 32
  | .slotTime => c.slotTime
  | .minCwAttempts => c.minCwAttempts.setWidth 32
  | .fairLimit => c.fairLimit.setWidth 32
  | .csmaA => c.csmaA.setWidth 32
  | .csmaK => c.csmaK.setWidth 32
  | .maxCsmaBackoffs => c.maxCsmaBackoffs.setWidth 32
  | .maxFrameRetries => c.maxFrameRetries.setWidth 32
  | .robustBelow => c.robustBelow.setWidth 32
  | .macFlags => c.macFlags.setWidth 32
  | .eifsTime => c.eifsTime
  | .cifsTime => c.cifsTime
  | .rcifsTime => c.rcifsTime
  | .cpTime => c.cpTime
  | .rifsTime => c.rifsTime
  | .ackTime => c.ackTime
  | .leadTime => c.leadTime
  | .toneMask0 => c.toneMask0
  | .toneMask1 => c.toneMask1
  | .toneMask2 => c.toneMask2

/-- A status register. -/
def State.getStatus (s : State) (r : StatusReg) : Word :=
  match r with
  | .state => s.mac.stateBits.setWidth 32
  | .occEntered => s.mac.occEntered
  | .txEntered => s.mac.txEntered
  | .cw => s.csma.cw.setWidth 32
  | .minCwStreak => s.csma.minCwStreak.setWidth 32
  | .nb => s.csma.nb.setWidth 32
  | .nbf => s.csma.nbf.setWidth 32
  | .retriesLeft => s.sess.retriesLeft.setWidth 32
  | .segIndex => s.sess.segIndex.setWidth 32
  | .sentOffset => s.sess.sentOffset.setWidth 32
  | .segLen => s.sess.segLen.setWidth 32
  | .txLen => s.sess.txLen.setWidth 32
  | .txFcs => s.sess.txFcs.setWidth 32
  | .backoff => s.csma.backoff
  | .periodWait => s.csma.periodWait
  | .dsn => s.sess.dsn.setWidth 32
  | .reqSeq => s.sess.reqSeq.setWidth 32
  | .txTime => s.sess.txTime
  | .maxSegPayload => s.sess.maxSegPayload.setWidth 32

/-- A rejection counter. -/
def CntBank.get (c : CntBank) (r : CntReg) : Word :=
  match r with
  | .badCrc => c.badCrc
  | .malformed => c.malformed
  | .lastReject => (rejectBits c.lastReject).setWidth 32

/-- A snapshot register. -/
def SnapBank.get (b : SnapBank) (r : SnapReg) : Word :=
  match r with
  | .mod => b.modImage.setWidth 32
  | .toneMap => b.toneMap.setWidth 32
  | .toneMask0 => b.toneMask0
  | .toneMask1 => b.toneMask1
  | .toneMask2 => b.toneMask2
  | .gain => b.gain
  | .bpc => b.bpc.setWidth 32
  | .rep => b.rep.setWidth 32
  | .parity => b.parity.setWidth 32
  | .maxPhy => b.maxPhy.setWidth 32

/-- A descriptor register. -/
def TxdBank.get (t : TxdBank) (r : TxdReg) : Word :=
  match r with
  | .len => t.len.setWidth 32
  | .ctrl => t.ctrl.setWidth 32
  | .dstPan => t.dstPan.setWidth 32
  | .dstLo => t.dstLo
  | .dstHi => t.dstHi
  | .toneMap => t.toneMap.setWidth 32
  | .gain => t.gain
  | .secLo => t.secLo
  | .secHi => t.secHi.setWidth 32

/-- A header register. -/
def FrameBank.get (b : FrameBank) (r : FrameReg) : Word :=
  match r with
  | .sc => b.sc.setWidth 32
  | .fc => b.fc.setWidth 32
  | .seq => b.seq.setWidth 32
  | .dstPan => b.dstPan.setWidth 32
  | .dstLo => b.dstLo
  | .dstHi => b.dstHi
  | .srcPan => b.srcPan.setWidth 32
  | .srcLo => b.srcLo
  | .srcHi => b.srcHi
  | .secLo => b.secLo
  | .secHi => b.secHi.setWidth 32

/-- One of the four further RXFR registers. -/
def RxBank.get (b : RxBank) (r : RxReg) : Word :=
  match r with
  | .padLen => b.padLen.setWidth 32
  | .payOff => b.payOff.setWidth 32
  | .fcs => b.fcs.setWidth 32
  | .len => b.len.setWidth 32

/-- `x[reg]` of an implemented register; no read has a side effect (R23). -/
def State.readReg (s : State) (r : Reg) : Word :=
  match r with
  | .cfg r => s.cfg.get r
  | .status r => s.getStatus r
  | .cnt r => s.cnt.get r
  | .snap r => s.snap.get r
  | .txd r => s.txd.get r
  | .txfr r => s.txfr.get r
  | .rxfr r => s.rxfr.header.get r
  | .rx r => s.rxfr.get r

/-! ## Writing (`10_state.md` R22: a value truncates to the field) -/

/-- The `RW` registers: configuration, descriptor and TXFR (R23, R204). -/
def regWritable (r : Reg) : Bool :=
  match r with
  | .cfg _ => true
  | .txd _ => true
  | .txfr _ => true
  | .status _ => false
  | .cnt _ => false
  | .snap _ => false
  | .rxfr _ => false
  | .rx _ => false

/-- `x[reg] <- v` in the configuration bank. -/
def CfgBank.put (c : CfgBank) (r : CfgReg) (v : Word) : CfgBank :=
  match r with
  | .panId => { c with panId := v.setWidth 16 }
  | .shortAddr => { c with shortAddr := v.setWidth 16 }
  | .extAddrLo => { c with extAddrLo := v }
  | .extAddrHi => { c with extAddrHi := v }
  | .minBE => { c with minBE := v.setWidth 4 }
  | .maxBE => { c with maxBE := v.setWidth 4 }
  | .hpWindow => { c with hpWindow := v.setWidth 16 }
  | .slotTime => { c with slotTime := v }
  | .minCwAttempts => { c with minCwAttempts := v.setWidth 8 }
  | .fairLimit => { c with fairLimit := v.setWidth 8 }
  | .csmaA => { c with csmaA := v.setWidth 8 }
  | .csmaK => { c with csmaK := v.setWidth 8 }
  | .maxCsmaBackoffs => { c with maxCsmaBackoffs := v.setWidth 8 }
  | .maxFrameRetries => { c with maxFrameRetries := v.setWidth 8 }
  | .robustBelow => { c with robustBelow := v.setWidth 8 }
  | .macFlags => { c with macFlags := v.setWidth 3 }
  | .eifsTime => { c with eifsTime := v }
  | .cifsTime => { c with cifsTime := v }
  | .rcifsTime => { c with rcifsTime := v }
  | .cpTime => { c with cpTime := v }
  | .rifsTime => { c with rifsTime := v }
  | .ackTime => { c with ackTime := v }
  | .leadTime => { c with leadTime := v }
  | .toneMask0 => { c with toneMask0 := v }
  | .toneMask1 => { c with toneMask1 := v }
  | .toneMask2 => { c with toneMask2 := v }

/-- `x[reg] <- v` in the descriptor. -/
def TxdBank.put (t : TxdBank) (r : TxdReg) (v : Word) : TxdBank :=
  match r with
  | .len => { t with len := v.setWidth 16 }
  | .ctrl => { t with ctrl := v.setWidth 16 }
  | .dstPan => { t with dstPan := v.setWidth 16 }
  | .dstLo => { t with dstLo := v }
  | .dstHi => { t with dstHi := v }
  | .toneMap => { t with toneMap := v.setWidth 24 }
  | .gain => { t with gain := v }
  | .secLo => { t with secLo := v }
  | .secHi => { t with secHi := v.setWidth 16 }

/-- `x[reg] <- v` in TXFR; bits 9..7 of `TXFR_FC` are hardwired 0 (R204). -/
def FrameBank.put (b : FrameBank) (r : FrameReg) (v : Word) : FrameBank :=
  match r with
  | .sc => { b with sc := v.setWidth 19 }
  | .fc => { b with fc := v.setWidth 16 &&& 0xFC7F#16 }
  | .seq => { b with seq := v.setWidth 8 }
  | .dstPan => { b with dstPan := v.setWidth 16 }
  | .dstLo => { b with dstLo := v }
  | .dstHi => { b with dstHi := v }
  | .srcPan => { b with srcPan := v.setWidth 16 }
  | .srcLo => { b with srcLo := v }
  | .srcHi => { b with srcHi := v }
  | .secLo => { b with secLo := v }
  | .secHi => { b with secHi := v.setWidth 16 }

end Sys2Proof.Machine
end

