-- ==== Sys2Proof/Machine/Codec.lean ====
section
/-! DEFINITION. The Frame Codec (`40_frame_codec.md`): the CRC-16, header length, `decode`, `encode`, and the four unit
operations `CRC16`, `HDRLEN`, `DECODE`, `ENCODE`. -/

namespace Sys2Proof.Machine

/-! ## CRC-16 (R120) -/

/-- One of the eight shifts of a byte (R120). `CRC_REFLECT` chooses the direction. -/
def crcBit (c : BitVec 16) : BitVec 16 :=
  if Config.crcReflect then (if c.getLsbD 0 then (c >>> 1) ^^^ Config.crcPolyReversed else c >>> 1)
  else (if c.msb then (c <<< 1) ^^^ Config.crcPoly else c <<< 1)

/-- The byte is added into the accumulator at the end the shifts start from (R120). -/
def crcInject (c : BitVec 16) (b : Byte) : BitVec 16 :=
  if Config.crcReflect then c ^^^ b.setWidth 16 else c ^^^ (b.setWidth 16 <<< 8)

/-- One byte of the message (R120). -/
def crcByte (c : BitVec 16) (b : Byte) : BitVec 16 := Nat.repeat crcBit 8 (crcInject c b)

/-- `crc16(b)` (R120). -/
def crc16 (b : List Byte) : BitVec 16 := b.foldl crcByte Config.crcInit ^^^ Config.crcXorOut

/-- `fcsBytes(m) = bytes_le(crc16(m), 2)` (R123). -/
def fcsBytes (m : List Byte) : List Byte := bytesLe (crc16 m) 2

/-- `fcsOf`: the last two bytes of a frame, low byte first (R123). -/
def fcsOf (b : List Byte) : BitVec 16 := leAt 16 b (b.length - 2) 2

/-! ## Header length (R81, R89, R125) -/

/-- Bytes of the destination PAN and address; the reserved mode counts as absent (R89, R125). -/
def dstFieldLen (m : AddrMode) : Nat :=
  match m with
  | .none => 0
  | .reserved => 0
  | .short => 4
  | .extended => 10

/-- Bytes of the source PAN: present when there is a source and no compression (R81). -/
def srcPanLen (m : AddrMode) (panComp : Bool) : Nat :=
  match m with
  | .none => 0
  | .reserved => 0
  | .short => if panComp then 0 else 2
  | .extended => if panComp then 0 else 2

/-- Bytes of an address by its mode (R81). -/
def addrLen (m : AddrMode) : Nat :=
  match m with
  | .none => 0
  | .reserved => 0
  | .short => 2
  | .extended => 8

/-- The security header is on the wire: `sec = 1` and `segNum = 0` (R81). -/
def secCarried (f : Frame) : Bool := f.sec && decide (f.segNum = 0#6)

/-- Bytes of the security header on the wire (R81, R89). -/
def secLen (f : Frame) : Nat := if secCarried f then 6 else 0

/-- Where the source fields start (R80, R82). -/
def srcOffset (f : Frame) : Nat := 6 + dstFieldLen f.dstMode

/-- Where the source address starts (R80, R82). -/
def srcAddrOffset (f : Frame) : Nat := srcOffset f + srcPanLen f.srcMode f.panComp

/-- Where the security header starts (R80, R82). -/
def secOffset (f : Frame) : Nat := srcAddrOffset f + addrLen f.srcMode

/-- `hdrLen(f)` (R89): 6 fixed bytes, destination, source and security parts. -/
def hdrLen (f : Frame) : Nat := secOffset f + secLen f

/-- `overhead(f) = hdrLen(f) + 2` (R125). -/
def overhead (f : Frame) : Nat := hdrLen f + 2

/-- `expected(f) = hdrLen(f) + f.segLen + 2` (R90). -/
def expected (f : Frame) : Nat := hdrLen f + f.segLen.toNat + 2

/-! ## Canonical values of absent fields (R135) -/

/-- An address as a record holds it: a short address in bits 15..0, 0 when the side is absent (R28, R135). The reserved
mode counts as absent (log entry 11). -/
def canonicalAddr (m : AddrMode) (a : BitVec 64) : BitVec 64 :=
  match m with
  | .none => 0#64
  | .reserved => 0#64
  | .short => (a.extractLsb' 0 16).setWidth 64
  | .extended => a

/-- A destination PAN, 0 when the side is absent (R135; log entry 11 for the reserved mode). -/
def canonicalDstPan (m : AddrMode) (p : BitVec 16) : BitVec 16 :=
  match m with
  | .none => 0#16
  | .reserved => 0#16
  | .short => p
  | .extended => p

/-- A source PAN: 0 without a source; under compression the (canonical) destination PAN; else its own (R135; log
entry 11 for the reserved mode). -/
def canonicalSrcPan (m : AddrMode) (panComp : Bool) (dstPan p : BitVec 16) : BitVec 16 :=
  match m with
  | .none => 0#16
  | .reserved => 0#16
  | .short => if panComp then dstPan else p
  | .extended => if panComp then dstPan else p

/-- The record with every absent field at its canonical value (R135). -/
def canonical (f : Frame) : Frame :=
  { f with
    dstPan := canonicalDstPan f.dstMode f.dstPan
    srcPan := canonicalSrcPan f.srcMode f.panComp (canonicalDstPan f.dstMode f.dstPan) f.srcPan
    dstAddr := canonicalAddr f.dstMode f.dstAddr
    srcAddr := canonicalAddr f.srcMode f.srcAddr
    secHdr := if secCarried f then f.secHdr else 0#48 }

/-- `WF(f)` (R141). -/
def Frame.wf (f : Frame) : Bool :=
  decide (f.ftype.toNat < 4) && !f.pending && decide (f.dstMode ≠ .reserved) && decide (f.srcMode ≠ .reserved) &&
    !(decide (f.srcMode = .short) && decide (f.srcAddr.extractLsb' 0 16 = Config.shortAddrUndefined)) &&
    decide (f.payload.length = f.segLen.toNat) && decide (canonical f = f)

/-! ## Decode (R128, R129) -/

/-- What `decode` returns (R128). -/
inductive DecodeResult where
  | ok (f : Frame) (pad : Nat)
  | reject (code : RejectCode)
  deriving DecidableEq, Repr

/-- Step 3: the fixed fields, bytes 0 to 5 (R83 to R85). Reserved bits are ignored (R91). -/
def decodeFixed (b : List Byte) : Frame :=
  let b0 := byteAt b 0
  frameOfControl
    (BitVec.ofBool (b0.getLsbD 3) ++ BitVec.ofBool (b0.getLsbD 1) ++ BitVec.ofBool (b0.getLsbD 0) ++ byteAt b 1 ++
      byteAt b 2)
    (leAt 16 b 3 2) (byteAt b 5)

/-- An address field read from the wire by its mode (R86, R129 step 6). -/
def decodeAddr (m : AddrMode) (b : List Byte) (p : Nat) : BitVec 64 :=
  match m with
  | .none => 0#64
  | .reserved => 0#64
  | .short => leAt 64 b p 2
  | .extended => leAt 64 b p 8

/-- Step 6: the addressing fields and the security header, each at its offset, absent ones canonical (R129, R135). -/
def decodeVariable (f : Frame) (b : List Byte) : Frame :=
  let dstPan := canonicalDstPan f.dstMode (leAt 16 b 6 2)
  { f with
    dstPan := dstPan
    dstAddr := decodeAddr f.dstMode b 8
    srcPan := canonicalSrcPan f.srcMode f.panComp dstPan (leAt 16 b (srcOffset f) 2)
    srcAddr := decodeAddr f.srcMode b (srcAddrOffset f)
    secHdr := if secCarried f then leAt 48 b (secOffset f) 6 else 0#48 }

/-- Step 8: the payload after the header (R129). -/
def withPayload (f : Frame) (b : List Byte) : Frame :=
  { f with payload := (b.drop (hdrLen f)).take f.segLen.toNat }

/-- `decode(b, n)` with `n` the length of `b` (R129): the checks in the order `SHORT`, `BAD_CRC`, `BAD_TYPE`, `PENDING`,
`BAD_ADDR_MODE`, `LENGTH`, `SRC_UNDEFINED` (R133). -/
def decodeFrame (b : List Byte) : DecodeResult :=
  if b.length < Config.minFrameLen then .reject .short
  else if crc16 (b.take (b.length - 2)) ≠ fcsOf b then .reject .badCrc
  else
    let f := decodeFixed b
    if 4 ≤ f.ftype.toNat then .reject .badType
    else if f.pending then .reject .pending
    else if f.dstMode = .reserved ∨ f.srcMode = .reserved then .reject .badAddrMode
    else if b.length < expected f then .reject .length
    else
      let g := decodeVariable f b
      if g.srcMode = .short ∧ g.srcAddr.extractLsb' 0 16 = Config.shortAddrUndefined then .reject .srcUndefined
      else .ok (withPayload g b) (b.length - expected f)

/-! ## Encode (R138) -/

/-- An address field as wire bytes (R86). -/
def addrBytes (m : AddrMode) (a : BitVec 64) : List Byte :=
  match m with
  | .none => []
  | .reserved => []
  | .short => bytesLe a 2
  | .extended => bytesLe a 8

/-- The destination PAN as wire bytes (R81, R86). -/
def dstPanBytes (m : AddrMode) (p : BitVec 16) : List Byte :=
  match m with
  | .none => []
  | .reserved => []
  | .short => bytesLe p 2
  | .extended => bytesLe p 2

/-- The source PAN as wire bytes (R81, R86). -/
def srcPanBytes (m : AddrMode) (panComp : Bool) (p : BitVec 16) : List Byte :=
  match m with
  | .none => []
  | .reserved => []
  | .short => if panComp then [] else bytesLe p 2
  | .extended => if panComp then [] else bytesLe p 2

/-- The header: everything before the payload (R80). -/
def headerBytes (f : Frame) : List Byte :=
  segControlBytes f ++ bytesLe (fcImage f) 2 ++ [f.seq] ++ dstPanBytes f.dstMode f.dstPan ++
    addrBytes f.dstMode f.dstAddr ++ srcPanBytes f.srcMode f.panComp f.srcPan ++ addrBytes f.srcMode f.srcAddr ++
    (if secCarried f then bytesLe f.secHdr 6 else [])

/-- What the check sequence covers: header, payload, zero padding up to two bytes before `total` (R138). -/
def coveredBytes (f : Frame) (total : Nat) : List Byte :=
  let m := headerBytes f ++ f.payload
  m ++ List.replicate (total - m.length - 2) 0#8

/-- `encode(f, total)`: exactly `total` bytes, or failure when `total` is below the expected length (R138). -/
def encodeFrame (f : Frame) (total : Nat) : Option (List Byte) :=
  if total < expected f then none
  else some (coveredBytes f total ++ fcsBytes (coveredBytes f total))

/-! ## Shared operations over the state -/

/-- RXFR as a successful decode of `n` bytes writes it, all 15 registers (R131, R134). -/
def RxBank.ofDecode (f : Frame) (pad : Nat) (b : List Byte) : RxBank :=
  { header := FrameBank.ofFrame f, padLen := BitVec.ofNat 12 pad, payOff := BitVec.ofNat 12 (hdrLen f),
    fcs := fcsOf b, len := BitVec.ofNat 12 b.length }

/-- `decode(MemRead(RXBUF, 0, n), n)`: what the first `n` bytes of `RXBUF` decode to (R131). -/
def State.rxDecode (s : State) (n : Nat) : DecodeResult := decodeFrame (Memory.readRun s.rxbuf 0 n)

/-- The side effects of `decodeAndCount(n)` (R131): a rejection is recorded, an accepted frame written to RXFR. -/
def State.countDecode (s : State) (n : Nat) : State :=
  match s.rxDecode n with
  | .reject code => { s with cnt := s.cnt.record code }
  | .ok f pad => { s with rxfr := RxBank.ofDecode f pad (Memory.readRun s.rxbuf 0 n) }

/-- `MemWrite(TXBUF, 0, n, b); TX_LEN <- n; TX_FCS <- le16` of the last two, `n` the length of `b` (R140, R196). -/
def State.storeFrame (s : State) (b : List Byte) : State :=
  { s with
    txbuf := Memory.writeRun s.txbuf 0 b
    sess := { s.sess with txLen := BitVec.ofNat 12 b.length, txFcs := fcsOf b } }

/-! ## Meanings -/

/-- `CRC16 len` (R122). -/
def execCrc16 (len : BitVec 12) (s : State) : Host.Outcome State Fault Refusal :=
  unitOp s (fun s =>
    if Config.frameBufLen < len.toNat then s.respond .errParam 0#24
    else s.respond .ok ((crc16 (Memory.readRun s.rxbuf 0 len.toNat)).setWidth 24))

/-- `HDRLEN` (R126). -/
def execHdrlen (s : State) : Host.Outcome State Fault Refusal :=
  unitOp s (fun s => s.respond .ok (BitVec.ofNat 24 (hdrLen s.txfr.toFrame)))

/-- `DECODE len` (R130): the response is `OK` also for a rejected frame, its code the result. -/
def execDecode (len : BitVec 12) (s : State) : Host.Outcome State Fault Refusal :=
  unitOp s (fun s =>
    if Config.frameBufLen < len.toNat then s.respond .errParam 0#24
    else
      match s.rxDecode len.toNat with
      | .ok _ _ => (s.countDecode len.toNat).respond .ok 0#24
      | .reject code => (s.countDecode len.toNat).respond .ok ((rejectBits code).setWidth 24))

/-- TXFR as a Frame record with the `REQMEM` payload at `off` (R140). -/
def State.encodeSource (s : State) (off : Nat) : Frame :=
  let f := s.txfr.toFrame
  { f with payload := Memory.readRun s.reqmem off f.segLen.toNat }

/-- The function of `ENCODE len, off` (R140); a length below the expected one is where `encode` fails (R138). -/
def State.encodeUnit (s : State) (len off : Nat) : State :=
  let f := s.encodeSource off
  if Config.frameBufLen < len ∨ Config.reqmemLen < off + f.segLen.toNat then s.respond .errParam 0#24
  else
    match encodeFrame f len with
    | none => s.respond .errParam 0#24
    | some b => (s.storeFrame b).respond .ok ((fcsOf b).setWidth 24)

/-- `ENCODE len, off` (R140). -/
def execEncode (len : BitVec 12) (off : BitVec 16) (s : State) : Host.Outcome State Fault Refusal :=
  unitOp s (fun s => s.encodeUnit len.toNat off.toNat)

end Sys2Proof.Machine
end

