-- ==== Sys2Proof/Machine/Backoff.lean ====
section
/-! DEFINITION. The CSMA/CA Backoff Engine (`42_csma_backoff.md`) and the unit operations `BACKOFF`, `ACCFAIL`, `ACCOK`,
`COMPENSATE`. The functions act on the engine's registers alone. -/

namespace Sys2Proof.Machine

/-- `minW = 2^MIN_BE` (R170). -/
def CfgBank.minW (c : CfgBank) : Nat := 2 ^ c.minBE.toNat

/-- `maxW = 2^MAX_BE` (R170). -/
def CfgBank.maxW (c : CfgBank) : Nat := 2 ^ c.maxBE.toNat

/-- `shrink(CW) = max(CW - A*minW, minW)` on integers (R170). -/
def shrink (c : CfgBank) (cw : BitVec 16) : BitVec 16 :=
  BitVec.ofNat 16 (max (cw.toNat - c.csmaA.toNat * c.minW) c.minW)

/-- `uniform(0, W)`: `Rnd mod W` for `W >= 1`, 0 for `W = 0` (R171). -/
def uniform (rnd : BitVec 16) (w : Nat) : Nat := if w = 0 then 0 else rnd.toNat % w

/-- The streak and the window a normal-priority backoff first updates (R174). -/
def CsmaBank.updateStreak (k : CsmaBank) (c : CfgBank) : CsmaBank :=
  let streak := if k.cw.toNat = c.minW then sat8Inc k.minCwStreak else 0#8
  { k with
    minCwStreak := streak
    cw := if c.minCwAttempts.toNat < streak.toNat then BitVec.ofNat 16 c.maxW else k.cw }

/-- The window a normal-priority draw uses (R174, R175). -/
def CsmaBank.drawWindow (k : CsmaBank) (c : CfgBank) (bcast : Bool) : Nat :=
  if bcast && c.bcastMaxCw then c.maxW else k.cw.toNat

/-- The slots a backoff draws (R173, R174); `k` is the bank after the streak update. -/
def CsmaBank.slots (k : CsmaBank) (c : CfgBank) (prio bcast : Bool) (rnd : BitVec 16) : Nat :=
  if prio then uniform rnd c.hpWindow.toNat else uniform rnd (k.drawWindow c bcast)

/-- `PERIOD_WAIT` of a priority class (R173, R174), modulo 2^32. -/
def CfgBank.periodWait (c : CfgBank) (prio : Bool) : Word :=
  if prio then c.slotTime else BitVec.ofNat 32 ((1 + c.hpWindow.toNat) * c.slotTime.toNat)

/-- The bank a backoff draws from: high priority reads and writes neither window nor streak (R173). -/
def CsmaBank.beforeDraw (k : CsmaBank) (c : CfgBank) (prio : Bool) : CsmaBank :=
  if prio then k else k.updateStreak c

/-- The slots returned by `backoff(prio, bcast, rnd)` (R173, R174). -/
def CsmaBank.backoffSlots (k : CsmaBank) (c : CfgBank) (prio bcast : Bool) (rnd : BitVec 16) : Nat :=
  (k.beforeDraw c prio).slots c prio bcast rnd

/-- The registers after `backoff(prio, bcast, rnd)` (R173, R174). -/
def CsmaBank.runBackoff (k : CsmaBank) (c : CfgBank) (prio bcast : Bool) (rnd : BitVec 16) : CsmaBank :=
  { k.beforeDraw c prio with
    backoff := BitVec.ofNat 32 (k.backoffSlots c prio bcast rnd * c.slotTime.toNat)
    periodWait := c.periodWait prio }

/-- The window after a failed access, `nbf` already counted (R177). -/
def windowAfterFail (c : CfgBank) (nbf : BitVec 8) (cw : BitVec 16) : BitVec 16 :=
  if c.fairLimit.toNat < nbf.toNat then
    (if c.csmaK.toNat ≠ 0 ∧ nbf.toNat % c.csmaK.toNat = 0 then shrink c cw else cw)
  else BitVec.ofNat 16 (min (2 * cw.toNat) c.maxW)

/-- `accessFail(prio)` (R177). -/
def CsmaBank.accessFail (k : CsmaBank) (c : CfgBank) (prio : Bool) : CsmaBank :=
  let nbf := if prio then k.nbf else sat8Inc k.nbf
  { k with nb := sat8Inc k.nb, nbf := nbf, cw := windowAfterFail c nbf k.cw }

/-- `NB >= MAX_CSMA_BACKOFFS`: the abort condition (R177, R241). -/
def CsmaBank.exhausted (k : CsmaBank) (c : CfgBank) : Bool := decide (c.maxCsmaBackoffs.toNat ≤ k.nb.toNat)

/-- `accessOk()` (R178). -/
def CsmaBank.accessOk (k : CsmaBank) (c : CfgBank) : CsmaBank := { k with cw := shrink c k.cw }

/-- The counters after `compensate()` (R183); `CW` is not restored. -/
def CsmaBank.compensated (k : CsmaBank) (pending nbf : Bool) : CsmaBank :=
  if pending then
    { k with nb := decIfPositive k.nb, nbf := if nbf then decIfPositive k.nbf else k.nbf }
  else k

/-- `compensate()` (R183): the increment of the marked attempt is reversed once and the mark is cleared. -/
def State.compensate (s : State) : State :=
  ({ s with csma := s.csma.compensated s.mac.compPending s.mac.compNbf } : State).clearComp

/-! ## Meanings -/

/-- `BACKOFF prio, bcast` (R172). -/
def execBackoff (prio bcast : Bool) (s : State) : Host.Outcome State Fault Refusal :=
  unitOp s (fun s =>
    ({ s with csma := s.csma.runBackoff s.cfg prio bcast s.rnd } : State).respond .ok
      (BitVec.ofNat 24 (s.csma.backoffSlots s.cfg prio bcast s.rnd)))

/-- `ACCFAIL prio` (R176); the result is the abort condition. -/
def execAccfail (prio : Bool) (s : State) : Host.Outcome State Fault Refusal :=
  unitOp s (fun s =>
    let k := s.csma.accessFail s.cfg prio
    ({ s with csma := k } : State).respond .ok (if k.exhausted s.cfg then 1#24 else 0#24))

/-- `ACCOK` (R178); the result is the new `CW`. -/
def execAccok (s : State) : Host.Outcome State Fault Refusal :=
  unitOp s (fun s =>
    let k := s.csma.accessOk s.cfg
    ({ s with csma := k } : State).respond .ok (k.cw.setWidth 24))

/-- `COMPENSATE` (R184); the result is `COMP_PENDING` as it was. -/
def execCompensate (s : State) : Host.Outcome State Fault Refusal :=
  unitOp s (fun s => s.compensate.respond .ok (if s.mac.compPending then 1#24 else 0#24))

end Sys2Proof.Machine
end

