-- ==== Sys2Proof/Machine/HostCommands.lean ====
section
/-! DEFINITION. The host commands `RESET`, `GET`, `SET`, `TXREQ` (`44_host_commands.md`). -/

namespace Sys2Proof.Machine

/-! ## RESET -/

/-- The configuration bank a reset leaves: its reset values when `clr`, else kept (R201). -/
def resetCfg (c : CfgBank) (clr : Bool) : CfgBank := if clr then CfgBank.reset else c

/-- `RESET clr` on the block (R201, R43): every register 0x40 to 0xCE at its reset value, `CW = 2^MIN_BE`, both frame
buffers 0. `REQMEM`, the environment's stream and the draws are not the block's to change (R312). -/
def State.cleared (s : State) (clr : Bool) : State :=
  { s with
    cfg := resetCfg s.cfg clr
    mac := MacBank.reset
    csma := CsmaBank.resetWith (BitVec.ofNat 16 (resetCfg s.cfg clr).minW)
    sess := SessBank.reset
    cnt := CntBank.reset
    snap := SnapBank.reset
    txd := TxdBank.reset
    txfr := FrameBank.reset
    rxfr := RxBank.reset
    txbuf := []
    rxbuf := [] }

/-- `RESET clr` (R201): accepted in every state, emits nothing, drops an active request without a confirm. -/
def execReset (clr : Bool) (s : State) : Host.Outcome State Fault Refusal :=
  answer ((s.cleared clr).respond .ok 0#24)

/-! ## GET -/

/-- The `GET_CONFIRM` of a register number: `VALID` with the value, or `INVALID` with 0 (R203). -/
def State.getConfirm (s : State) (n : BitVec 8) : Effect :=
  match regOf n with
  | some r => .getConfirm n true (s.readReg r)
  | none => .getConfirm n false 0#32

/-- `GET reg` (R203): accepted in every state, changes no register. -/
def execGet (reg : BitVec 8) (s : State) : Host.Outcome State Fault Refusal :=
  answer ((s.emit (s.getConfirm reg)).respond .ok 0#24)

/-! ## SET -/

/-- The value would leave `MIN_BE > MAX_BE` (R25, R204); the value is first truncated to the field. -/
def setRefused (c : CfgBank) (r : Reg) (v : Word) : Bool :=
  match r with
  | .cfg .minBE => decide (c.maxBE.toNat < (v.setWidth 4).toNat)
  | .cfg .maxBE => decide ((v.setWidth 4).toNat < c.minBE.toNat)
  | _ => false

/-- A `SET` of `MIN_BE` or `MAX_BE` re-initialises `CW` and the streak from the new `MIN_BE` (R25, R204). -/
def CsmaBank.afterCfgSet (k : CsmaBank) (r : CfgReg) (c : CfgBank) : CsmaBank :=
  match r with
  | .minBE => { k with cw := BitVec.ofNat 16 c.minW, minCwStreak := 0#8 }
  | .maxBE => { k with cw := BitVec.ofNat 16 c.minW, minCwStreak := 0#8 }
  | _ => k

/-- `x[reg] <- v` of an `RW` register (R204); the other registers are not written by `SET`. -/
def State.writeReg (s : State) (r : Reg) (v : Word) : State :=
  match r with
  | .cfg r => { s with cfg := s.cfg.put r v, csma := s.csma.afterCfgSet r (s.cfg.put r v) }
  | .txd r => { s with txd := s.txd.put r v }
  | .txfr r => { s with txfr := s.txfr.put r v }
  | .status _ => s
  | .cnt _ => s
  | .snap _ => s
  | .rxfr _ => s
  | .rx _ => s

/-- `SET reg, value` (R204), the checks in its order: `ERR_REG`, `ERR_RO`, `ERR_BUSY`, `ERR_PARAM` (R283). -/
def execSet (reg : BitVec 8) (value : Word) (s : State) : Host.Outcome State Fault Refusal :=
  match regOf reg with
  | none => refuseWith s .errReg
  | some r =>
    if regWritable r = false then refuseWith s .errRo
    else if s.busy then refuseWith s .errBusy
    else if setRefused s.cfg r value then refuseWith s .errParam
    else answer ((s.writeReg r value).respond .ok 0#24)

/-! ## TXREQ -/

/-- The descriptor is one `TXREQ` refuses: a reserved addressing mode or `MOD_TYPE` above 4 (R205). -/
def TxdBank.unacceptable (t : TxdBank) : Bool := t.modeReserved || decide (modOf t.modTypeBits = none)

/-- The session after an accepted `TXREQ` (R205). -/
def SessBank.accepted (b : SessBank) : SessBank :=
  { b with
    reqSeq := b.dsn
    dsn := b.dsn + 1#8
    segIndex := 0#6
    sentOffset := 0#16
    segLen := 0#10
    retriesLeft := 0#8 }

/-- The tags and flags after an accepted `TXREQ` (R205). `MORE_FRAG` is cleared, as the pseudocode of R205 says; R38 says
that only `NEXTSEG` writes it, and no ruling decides between the two (DESIGN CHOICE, log entry 22). -/
def MacBank.accepted (m : MacBank) : MacBank :=
  { m with tx := .start, moreFrag := false, compPending := false, compNbf := false, immediate := false }

/-- An accepted `TXREQ` (R205): window, streak, occupancy, counters and snapshot are not touched. `BACKOFF` and
`PERIOD_WAIT` keep their values, as program P3 of `95_test_vectors.md` shows them after a `TXREQ`. `MAX_SEG_PAYLOAD` keeps
its value too, since the pseudocode of R205 does not write it; R30 counts it among the registers initialised here, and no
ruling decides (DESIGN CHOICE, log entry 24). -/
def State.acceptRequest (s : State) : State :=
  { s with
    sess := s.sess.accepted
    csma := { s.csma with nb := 0#8, nbf := 0#8 }
    mac := s.mac.accepted }

/-- `TXREQ` (R205): `REJECTED` while a request is active, then `ERR_PARAM` (R283); the result is `REQ_SEQ`. -/
def execTxreq (s : State) : Host.Outcome State Fault Refusal :=
  if s.busy then refuseWith s .rejected
  else if s.txd.unacceptable then refuseWith s .errParam
  else answer (s.acceptRequest.respond .ok (s.sess.dsn.setWidth 24))

end Sys2Proof.Machine
end

