-- ==== Sys2Proof/Machine/Phy.lean ====
section
/-! DEFINITION. The PHY Parameter Calculator at its boundary (`41_phy_params.md`), the modulation fallback
(`45_mac_state_machine.md` R256), and the unit operations `PHYCALC` and `FALLBACK`. The two open functions are
parameters of the `...With` forms; the block uses `Config.maxPhyPayload` (log entry 5). -/

namespace Sys2Proof.Machine

/-- Bits per carrier (R153). -/
def bitsPerCarrier (t : ModType) : BitVec 3 :=
  match t with
  | .robust => 1#3
  | .bpsk => 1#3
  | .qpsk => 2#3
  | .psk8 => 3#3
  | .qam16 => 4#3

/-- FEC repetition factor (R154). -/
def repetition (t : ModType) : BitVec 3 := if t = .robust then 4#3 else 1#3

/-- Reed-Solomon parity bytes (R154). -/
def parityBytes (t : ModType) : BitVec 5 := if t = .robust then 8#5 else 16#5

/-- `toneMap[k]` (R152): a bit of the 24-bit map; bits 31..24 of its register read 0 (R22); beyond the register the spec
gives no bit and the value is free (DESIGN CHOICE, log entry 23). -/
def toneMapBit (toneMap : BitVec 24) (k : Nat) : Bool :=
  if k < 32 then toneMap.getLsbD k else Config.toneMapBeyond toneMap k

/-- `active(c)` (R152): the carrier's sub-band bit of the tone map and its bit of the tone mask. -/
def carrierActive (i : SnapIn) (c : Nat) : Bool :=
  toneMapBit i.toneMap (c / (Config.subbandWidthLessOne + 1)) && i.toneMask.getLsbD c

/-- `activeCount` (R152). -/
def activeCount (i : SnapIn) : Nat := ((List.range Config.numCarriers.val).filter (carrierActive i)).length

/-- `usableCarriers` (R152), natural-number subtraction. No register holds it and no rule of the block reads it; it is
what an instantiation of the open functions may use (log entry 6). -/
def usableCarriers (i : SnapIn) : Nat :=
  activeCount i - (if i.scheme then Config.pilotCount (activeCount i) Config.pilotSpacing else 0)

/-- `deriveSnapshot()` (R157) under a given `maxPhyPayload`. -/
def SnapBank.deriveWith (maxPhy : SnapIn → Nat) (b : SnapBank) : SnapBank :=
  { b with
    bpc := bitsPerCarrier b.modType
    rep := repetition b.modType
    parity := parityBytes b.modType
    maxPhy := BitVec.ofNat 16 (min (maxPhy b.snapIn) 65535) }

/-- `deriveSnapshot()` (R157). -/
def SnapBank.derive (b : SnapBank) : SnapBank := b.deriveWith Config.maxPhyPayload

/-- The inputs `loadSnapshot()` copies from the descriptor and the tone mask registers (R157), with the modulation type
already read. -/
def SnapBank.inputsOf (b : SnapBank) (c : CfgBank) (t : TxdBank) (type : ModType) : SnapBank :=
  { b with
    modType := type
    scheme := t.modScheme
    twoRs := t.twoRs
    toneMap := t.toneMap
    toneMask0 := c.toneMask0
    toneMask1 := c.toneMask1
    toneMask2 := c.toneMask2
    gain := t.gain }

/-- `loadSnapshot()` (R157); none when `TXD_CTRL.MOD_TYPE` is above 4, for which it is not called (R157). -/
def State.loadedSnap (s : State) : Option SnapBank :=
  match modOf s.txd.modTypeBits with
  | some type => some ((s.snap.inputsOf s.cfg s.txd type).derive)
  | none => none

/-- The `PHY_SET_PARAMS` effect of the current snapshot (R104, R230, R254). -/
def SnapBank.setParams (b : SnapBank) : Effect := .phySetParams b.modImage b.toneMap b.toneMask b.gain

/-- One notch down: 16QAM, 8PSK, QPSK, BPSK, ROBUST (R256). -/
def modDown (t : ModType) : ModType :=
  match t with
  | .robust => .robust
  | .bpsk => .robust
  | .qpsk => .bpsk
  | .psk8 => .qpsk
  | .qam16 => .psk8

/-- `fallback(type, r)` (R256). -/
def fallback (robustBelow : BitVec 8) (t : ModType) (r : BitVec 8) : ModType :=
  if r.toNat < robustBelow.toNat then .robust else modDown t

/-- `if t != SNAP_MOD.TYPE: SNAP_MOD.TYPE <- t; deriveSnapshot()` (R254, R258). -/
def SnapBank.fallTo (b : SnapBank) (t : ModType) : SnapBank :=
  if t = b.modType then b else ({ b with modType := t } : SnapBank).derive

/-- The function of `PHYCALC load` (R158). -/
def State.phyCalc (s : State) (load : Bool) : State :=
  if load then
    match s.loadedSnap with
    | none => s.respond .errParam 0#24
    | some b => ({ s with snap := b } : State).respond .ok (b.maxPhy.setWidth 24)
  else ({ s with snap := s.snap.derive } : State).respond .ok (s.snap.derive.maxPhy.setWidth 24)

/-- `PHYCALC load` (R158). -/
def execPhycalc (load : Bool) (s : State) : Host.Outcome State Fault Refusal := unitOp s (fun s => s.phyCalc load)

/-- `FALLBACK retries` (R258): it applies the function whatever `TXD_CTRL.FORCE` says, and emits nothing. -/
def execFallback (retries : BitVec 8) (s : State) : Host.Outcome State Fault Refusal :=
  unitOp s (fun s =>
    let t := fallback s.cfg.robustBelow s.snap.modType retries
    ({ s with snap := s.snap.fallTo t } : State).respond .ok ((modBits t).setWidth 24))

end Sys2Proof.Machine
end

