-- ==== Sys2Proof/Machine/Segment.lean ====
section
/-! DEFINITION. The Segmentation Engine (`43_segmentation.md`): `nextSeg()`, `segDone()` and the unit operations
`NEXTSEG`, `SEGDONE`. `nextSeg` under a given `rsPad` is the `...With` form; the block uses `Config.rsPad` (log
entry 5). -/

namespace Sys2Proof.Machine

/-- The header of the segment at `SEG_INDEX`, its `segLen`, `lsf`, `tmr` and payload still to fill (R192). -/
def State.segHeader (s : State) : Frame :=
  { segLen := 0#10, segNum := s.sess.segIndex, lsf := false, cap := s.txd.cap, tmr := false,
    ftype := Config.dataFrameType, sec := s.txd.sec, pending := false, ackReq := s.txd.ackReq,
    panComp := s.txd.panComp, dstMode := s.txd.dstMode, version := s.cfg.frameVersion, srcMode := s.txd.srcMode,
    seq := s.sess.reqSeq, dstPan := s.txd.dstPan, srcPan := s.cfg.panId, dstAddr := s.txd.dstAddr,
    srcAddr := if s.txd.srcMode = .short then s.cfg.shortAddr.setWidth 64 else s.cfg.extAddr,
    secHdr := s.txd.secHdr, payload := [] }

/-- Bytes still to send: `TXD_LEN - SENT_OFFSET` (R196). -/
def State.remaining (s : State) : Nat := s.txd.len.toNat - s.sess.sentOffset.toNat

/-- `maxSeg = min(1023, SNAP_MAX_PHY - overhead(f))` (R191). -/
def State.maxSeg (s : State) : Nat :=
  min Config.maxSegLen (s.snap.maxPhy.toNat - overhead s.segHeader)

/-- `segLen = min(maxSeg, remaining)` (R196). -/
def State.nextSegLen (s : State) : Nat := min s.maxSeg s.remaining

/-- This segment exhausts the remaining bytes (R193, R196). -/
def State.nextSegLast (s : State) : Bool := decide (s.nextSegLen = s.remaining)

/-- The record of the segment, absent fields canonical, its payload read from `REQMEM` (R192, R196). -/
def State.nextSegFrame (s : State) : Frame :=
  canonical
    { s.segHeader with
      segLen := BitVec.ofNat 10 s.nextSegLen
      lsf := s.nextSegLast
      tmr := s.nextSegLast && s.txd.tmr
      payload := Memory.readRun s.reqmem s.sess.sentOffset.toNat s.nextSegLen }

/-- `exp = hdrLen(f) + segLen + 2` of the segment (R194). -/
def State.nextSegExpected (s : State) : Nat := hdrLen s.segHeader + s.nextSegLen + 2

/-- `total = exp + rsPad(snapIn, exp)` (R194). -/
def State.nextSegTotal (s : State) (rsPad : SnapIn → Nat → Nat) : Nat :=
  s.nextSegExpected + rsPad s.snap.snapIn s.nextSegExpected

/-- `SegFault` (R195): (a) the offset is beyond the payload, (b) no room for a single payload byte, (c) the frame does
not fit `TXBUF`. -/
def State.segFault (s : State) (rsPad : SnapIn → Nat → Nat) : Bool :=
  decide (s.txd.len.toNat < s.sess.sentOffset.toNat) ||
    decide (s.snap.maxPhy.toNat ≤ overhead s.segHeader) ||
    decide (Config.frameBufLen < s.nextSegTotal rsPad)

/-- The registers and the buffer after `nextSeg()` built the on-air frame `b` (R193, R196). -/
def State.withSegment (s : State) (b : List Byte) : State :=
  let t := s.storeFrame b
  { t with
    txfr := FrameBank.ofFrame s.nextSegFrame
    sess := { t.sess with maxSegPayload := BitVec.ofNat 10 s.maxSeg, segLen := BitVec.ofNat 10 s.nextSegLen }
    mac := { t.mac with moreFrag := !s.nextSegLast } }

/-- `nextSeg()` (R196) under a given `rsPad`; none is `SegFault`, which writes nothing (R195). -/
def State.nextSegWith (s : State) (rsPad : SnapIn → Nat → Nat) : Option State :=
  if s.segFault rsPad then none
  else (encodeFrame s.nextSegFrame (s.nextSegTotal rsPad)).map s.withSegment

/-- `nextSeg()` (R196). -/
def State.nextSeg (s : State) : Option State := s.nextSegWith Config.rsPad

/-- `segDone()`: `SENT_OFFSET <- (SENT_OFFSET + SEG_LEN) mod 2^16` (R198). -/
def State.segDone (s : State) : State :=
  { s with sess := { s.sess with sentOffset := s.sess.sentOffset + s.sess.segLen.setWidth 16 } }

/-- `SENT_OFFSET < TXD_LEN`: more remains (R198, R252). -/
def State.moreRemains (s : State) : Bool := decide (s.sess.sentOffset.toNat < s.txd.len.toNat)

/-- The session position `NEXTSEG` sets (R196). -/
def State.seek (s : State) (seg : BitVec 6) (off : BitVec 16) : State :=
  { s with sess := { s.sess with segIndex := seg, sentOffset := off } }

/-- The result `SEG_LEN | lsf << 10` (R196); `lsf` is the inverse of `MORE_FRAG` (R193). -/
def State.segResult (s : State) : BitVec 24 := 0#13 ++ BitVec.ofBool (!s.mac.moreFrag) ++ s.sess.segLen

/-- The function of `NEXTSEG seg, off` under a given `rsPad` (R196): a `SegFault` leaves the session position as it
was. -/
def State.nextSegUnitWith (s : State) (rsPad : SnapIn → Nat → Nat) (seg : BitVec 6) (off : BitVec 16) : State :=
  if s.txd.modeReserved then s.respond .errParam 0#24
  else
    match (s.seek seg off).nextSegWith rsPad with
    | none => s.respond .errParam 0#24
    | some t => t.respond .ok t.segResult

/-! ## Meanings -/

/-- `NEXTSEG seg, off` (R196). -/
def execNextseg (seg : BitVec 6) (off : BitVec 16) (s : State) : Host.Outcome State Fault Refusal :=
  unitOp s (fun s => s.nextSegUnitWith Config.rsPad seg off)

/-- `SEGDONE` (R198); the result is 1 when more remains. -/
def execSegdone (s : State) : Host.Outcome State Fault Refusal :=
  unitOp s (fun s => s.segDone.respond .ok (if s.segDone.moreRemains then 1#24 else 0#24))

end Sys2Proof.Machine
end

