-- ==== Sys2Proof/Machine/Mac.lean ====
section
/-! DEFINITION. The MAC State Machine (`45_mac_state_machine.md`): `POLL`, `TXCFM`, `RXIND`, `ACKIND`. `POLL` makes one
occupancy transition (`occTick`), then one transmit transition (`txTick`). -/

namespace Sys2Proof.Machine

/-! ## The occupancy machine (R221) -/

/-- The timed exit of an occupancy state: its duration and the state it goes to; `IDLE` has none (R221). -/
def timedExit (c : CfgBank) (o : Occ) : Option (Word × Occ) :=
  match o with
  | .idle => none
  | .eifs => some (c.eifsTime, .idle)
  | .cifs => some (c.cifsTime, .cp)
  | .rcifs => some (c.rcifsTime, .cp)
  | .cp => some (c.cpTime, .idle)
  | .rifs => some (c.ackWait, .eifs)

/-- `occTick()` (R221): at most one timed transition, stamped with `Now`. -/
def State.occTick (s : State) : State :=
  match timedExit s.cfg s.mac.occ with
  | none => s
  | some (d, o) => if d ≤ elapsed s.now s.mac.occEntered then s.enterOcc o else s

/-! ## The transmit machine (R223) -/

/-- `nextSeg()` or `conclude(DENIED)` on a `SegFault`; `f` is what follows a built segment (R230, R252, R254). -/
def State.buildThen (s : State) (f : State → State) : State :=
  match s.nextSeg with
  | none => s.conclude .denied
  | some t => f t

/-- `RETRIES_LEFT <- v`. -/
def State.setRetries (s : State) (v : BitVec 8) : State :=
  { s with sess := { s.sess with retriesLeft := v } }

/-- `START` (R230). A `MOD_TYPE` above 4 cannot be there after `TXREQ` (log entry 10, safe). -/
def tickStart (s : State) : Host.Outcome State Fault Refusal :=
  match s.loadedSnap with
  | none => .fault .reservedModType
  | some b =>
    .next
      (((({ s with snap := b } : State).setRetries s.cfg.maxFrameRetries).emit b.setParams).buildThen
        (fun t => t.setTx .csmaCa))

/-- `CSMA_CA` (R231): the only place a request consumes `Rnd`. -/
def tickCsmaCa (s : State) : State :=
  (({ s with csma := s.csma.runBackoff s.cfg s.txd.prio s.txd.isBroadcast s.rnd } : State).setImmediate
    false).setTx .waitSend

/-- When and whether `WAIT_SEND` schedules: the time and `sense` (R232 to R236), none when occupancy does not permit. The
subtraction of the lead-time test does not go below 0 in a `POLL` (R234). -/
def State.sendTime (s : State) : Option (Word × Bool) :=
  if s.mac.immediate then some (s.now, false)
  else if s.mac.occ = .idle then some (s.now + s.csma.periodWait + s.csma.backoff, true)
  else if s.mac.occ = .cp ∧ s.cfg.leadTime.toNat ≤ s.cfg.cpTime.toNat - (elapsed s.now s.mac.occEntered).toNat then
    let t0 := s.mac.occEntered + s.csma.periodWait + s.csma.backoff
    some (if isBefore t0 s.now then s.now else t0, true)
  else none

/-- The `PHY_TX_REQ` of the on-air frame (R62, R104, R232). -/
def State.txReqEffect (s : State) (time : Word) (sense : Bool) : Effect :=
  .phyTxReq s.sess.txLen s.txd.ackReq sense s.mac.moreFrag time
    (Memory.readRun s.txbuf 0 s.sess.txLen.toNat)

/-- `WAIT_SEND` (R232). A `TX_LEN` beyond `TXBUF` is in no state a run reaches (log entry 9, safe). -/
def tickWaitSend (s : State) : Host.Outcome State Fault Refusal :=
  match s.sendTime with
  | none => .next s
  | some (time, sense) =>
    if Config.frameBufLen < s.sess.txLen.toNat then .fault .txLenBeyondTxbuf
    else .next (((s.emit (s.txReqEffect time sense)).setImmediate false).setTx .waitConfirm)

/-- `FAIL_CSMA_CA` (R241). -/
def tickFailCsmaCa (s : State) : State :=
  if s.csma.exhausted s.cfg then s.conclude .channelAccessFailure
  else if s.txd.ackReq then s.setTx .csmaCa
  else s.setTx .waitSend

/-- `WAIT_ACK` (R242). -/
def tickWaitAck (s : State) : State :=
  if s.cfg.ackWait ≤ elapsed s.now s.mac.txEntered then s.setTx .bigFail else s

/-- `SEG_INDEX <- SEG_INDEX + 1; RETRIES_LEFT <- MAX_FRAME_RETRIES` (R252). -/
def State.nextIndex (s : State) : State :=
  { s with
    sess := { s.sess with segIndex := s.sess.segIndex + 1#6, retriesLeft := s.cfg.maxFrameRetries } }

/-- `accessOk()` on the engine's registers (R178, R252). -/
def State.accessOk (s : State) : State := { s with csma := s.csma.accessOk s.cfg }

/-- `SEND_OK` (R252). -/
def tickSendOk (s : State) : State :=
  let d := s.segDone
  if d.moreRemains then
    if d.sess.segIndex = Config.maxSegNum then d.conclude .denied
    else d.nextIndex.buildThen (fun t => (t.setImmediate true).setTx .waitSend)
  else d.accessOk.conclude .success

/-- `LITTLE_FAIL` (R253). -/
def tickLittleFail (s : State) : State :=
  if s.sess.retriesLeft = 0#8 then s.conclude .noAck
  else ((s.setRetries (s.sess.retriesLeft - 1#8)).setImmediate false).setTx .waitSend

/-- The modulation fallback of `BIG_FAIL`, with the already reduced `RETRIES_LEFT` (R254, R256): the snapshot falls and
`PHY_SET_PARAMS` is emitted only when the type changes and the request does not force it. -/
def State.applyFallback (s : State) : State :=
  let t := fallback s.cfg.robustBelow s.snap.modType s.sess.retriesLeft
  if s.txd.force = false ∧ t ≠ s.snap.modType then
    ({ s with snap := s.snap.fallTo t } : State).emit (s.snap.fallTo t).setParams
  else s

/-- `BIG_FAIL` (R254). -/
def tickBigFail (s : State) : State :=
  if s.sess.retriesLeft = 0#8 then s.conclude .noAck
  else
    (s.setRetries (s.sess.retriesLeft - 1#8)).applyFallback.buildThen
      (fun t => (t.setImmediate false).setTx .csmaCa)

/-- `txTick()` (R223): one transition selected by `STATE.TX`. -/
def txTick (s : State) : Host.Outcome State Fault Refusal :=
  match s.mac.tx with
  | .none => .next s
  | .start => tickStart s
  | .csmaCa => .next (tickCsmaCa s)
  | .waitSend => tickWaitSend s
  | .waitConfirm => .next s
  | .failCsmaCa => .next (tickFailCsmaCa s)
  | .waitAck => .next (tickWaitAck s)
  | .sendOk => .next (tickSendOk s)
  | .littleFail => .next (tickLittleFail s)
  | .bigFail => .next (tickBigFail s)

/-- The end of a `POLL`: the new `STATE` register is the result (R220). -/
def State.pollAnswer (s : State) : State := s.respond .ok (s.mac.stateBits.setWidth 24)

/-- `POLL` (R220). -/
def execPoll (s : State) : Host.Outcome State Fault Refusal :=
  match txTick s.occTick with
  | .next t => .next t.pollAnswer
  | .fault r => .fault r
  | .refused r => .refused r

/-! ## TXCFM (R244 to R249) -/

/-- `SUCCESS` (R245). -/
def State.confirmSuccess (s : State) (time : Word) : State :=
  let t : State := { s with sess := { s.sess with txTime := time } }
  if s.txd.ackReq then
    ({ t with mac := { t.mac with tx := .waitAck, txEntered := s.now } } : State).enterOcc .rifs
  else (t.setTx .sendOk).enterOcc .cifs

/-- `BUSY_CHANNEL_SENSE` and `BUSY_OWN_RX` (R246). -/
def State.confirmBusy (s : State) : State :=
  (({ s with csma := s.csma.accessFail s.cfg s.txd.prio } : State).armComp (!s.txd.prio)).setTx .failCsmaCa

/-- A transmit confirm (R244): stray outside `WAIT_CONFIRM` (R249), else by its status, the compensation mark cleared
first. -/
def State.txConfirmed (s : State) (status : PhyStatus) (time : Word) : State :=
  if s.mac.tx ≠ .waitConfirm then s.enterOcc .eifs
  else
    match status with
    | .success => s.clearComp.confirmSuccess time
    | .busyChannelSense => s.clearComp.confirmBusy
    | .busyOwnRx => s.clearComp.confirmBusy
    | .busyOwnTx => (s.clearComp.conclude .transactionOverflow).enterOcc .eifs
    | .unknown _ => (s.clearComp.conclude .denied).enterOcc .eifs

/-- `TXCFM status, time` (R244): never an error. -/
def execTxcfm (status : PhyStatus) (time : Word) (s : State) : Host.Outcome State Fault Refusal :=
  answer ((s.txConfirmed status time).respond .ok 0#24)

/-! ## RXIND (R260 to R265) -/

/-- `panOk(p)` (R262). -/
def CfgBank.panOk (c : CfgBank) (p : BitVec 16) : Bool :=
  decide (p = c.panId) || decide (p = Config.panBroadcast)

/-- `addressFilter(f)` (R262). A decoded frame has no reserved mode (R129). -/
def CfgBank.addressFilter (c : CfgBank) (f : Frame) : Bool :=
  match f.dstMode with
  | .none => true
  | .reserved => false
  | .short =>
    c.panOk f.dstPan &&
      (decide (f.dstAddr.extractLsb' 0 16 = c.shortAddr) ||
        decide (f.dstAddr.extractLsb' 0 16 = Config.shortAddrBroadcast))
  | .extended => c.panOk f.dstPan && decide (f.dstAddr = c.extAddr)

/-- `isUnicastToMe(f)` (R262). -/
def CfgBank.isUnicastToMe (c : CfgBank) (f : Frame) : Bool :=
  match f.dstMode with
  | .none => false
  | .reserved => false
  | .short =>
    decide (f.dstAddr.extractLsb' 0 16 = c.shortAddr) && decide (c.shortAddr ≠ Config.shortAddrBroadcast)
  | .extended => decide (f.dstAddr = c.extAddr)

/-- An interrupted schedule goes back to `WAIT_SEND` (R261). -/
def State.interrupt (s : State) : State := if s.mac.tx = .waitConfirm then s.setTx .waitSend else s

/-- The positive acknowledgement requested of the PHY (R260, R264). -/
def State.ackEffect (s : State) (f : Frame) : Effect :=
  .phyAckReq .ack (!f.lsf) s.rxfr.fcs (s.now + s.cfg.rifsTime)

/-- `DATA_IND` when the filter passes, then `PHY_ACK_REQ` when the frame asks this node for one (R260, R263, R264). -/
def State.deliver (s : State) (f : Frame) (ack : Bool) (time : Word) : State :=
  let t := if s.cfg.addressFilter f then s.emit (.dataInd s.rxfr f.payload time) else s
  if s.cfg.addressFilter f && ack && s.cfg.isUnicastToMe f then t.emit (t.ackEffect f) else t

/-- What a reception does once it is decoded and counted (R260). -/
def State.received (s : State) (r : DecodeResult) (ack : Bool) (time : Word) : State :=
  match r with
  | .reject code => (s.enterOcc .eifs).respond .ok ((rejectBits code).setWidth 24)
  | .ok f _ =>
    ((s.compensate.interrupt.deliver f ack time).enterOcc (if ack then .rifs else .cifs)).respond .ok 0#24

/-- `RXIND len, ack, time` (R260): accepted in every state. -/
def execRxind (len : BitVec 12) (ack : Bool) (time : Word) (s : State) : Host.Outcome State Fault Refusal :=
  if Config.frameBufLen < len.toNat then refuseWith s .errParam
  else answer ((s.countDecode len.toNat).received (s.rxDecode len.toNat) ack time)

/-! ## ACKIND (R266 to R268) -/

/-- The occupancy state an acknowledgement enters (R267). -/
def occAfterAck (o : Occ) (d : Delim) : Occ :=
  if o = .rifs then
    match d with
    | .ack => .cifs
    | .nack => .rcifs
    | .other _ => .eifs
  else .eifs

/-- The transmit sub-state a matching acknowledgement leads to (R268). -/
def txAfterAck (t : TxSub) (d : Delim) (sub : Bool) : TxSub :=
  match d with
  | .ack => .sendOk
  | .nack => if sub then .bigFail else .littleFail
  | .other _ => t

/-- The acknowledgement is of the frame on air: `WAIT_ACK` and the echoed check sequence is `TX_FCS` (R266). -/
def State.ackMine (s : State) (fcs : BitVec 16) : Bool :=
  decide (s.mac.tx = .waitAck) && decide (fcs = s.sess.txFcs)

/-- An acknowledgement drives both machines from the state before the step (R266, R289). -/
def State.acknowledged (s : State) (d : Delim) (sub : Bool) (fcs : BitVec 16) : State :=
  let t := s.enterOcc (occAfterAck s.mac.occ d)
  if s.ackMine fcs then t.setTx (txAfterAck s.mac.tx d sub) else t

/-- `ACKIND delim, sub, fcs` (R266): never an error; the result says whether it was of the frame on air. -/
def execAckind (delim : Delim) (sub : Bool) (fcs : BitVec 16) (s : State) : Host.Outcome State Fault Refusal :=
  answer ((s.acknowledged delim sub fcs).respond .ok (if s.ackMine fcs then 1#24 else 0#24))

end Sys2Proof.Machine
end

