-- ==== Sys2Proof/Machine/Port.lean ====
section
/-! DEFINITION. The command port: what a step does with the environment's next turn (`00_scope.md` R5, R6,
`20_memory.md` R60, R69), and effect records as words (`30_encoding.md` R104). -/

namespace Sys2Proof.Machine

/-! ## Effect records as words -/

/-- The 15 registers of RXFR in order (R33, R104). -/
def RxBank.words (b : RxBank) : List Word :=
  frameRegs.map b.header.get ++ [b.get .padLen, b.get .payOff, b.get .fcs, b.get .len]

/-- An effect as its 32-bit words `E0, E1, ...` followed by its byte string (R104). Bits R104 does not name are 0
(DESIGN CHOICE, log entry 13). -/
def Effect.encode (e : Effect) : List Word × List Byte :=
  match e with
  | .phyTxReq len ackReq sense moreFrag time bytes =>
    ([0#9 ++ BitVec.ofBool moreFrag ++ BitVec.ofBool sense ++ BitVec.ofBool ackReq ++ len ++ 0x80#8, time], bytes)
  | .phyAckReq kind more fcs time =>
    ([fcs ++ 0#6 ++ BitVec.ofBool more ++ BitVec.ofBool (ackKindBit kind) ++ 0x81#8, time], [])
  | .phySetParams mod toneMap toneMask gain =>
    ([0#19 ++ mod ++ 0x82#8, toneMap.setWidth 32, toneMask.extractLsb' 0 32, toneMask.extractLsb' 32 32,
      toneMask.extractLsb' 64 32, gain], [])
  | .txConfirm outcome modType scheme =>
    ([0#17 ++ BitVec.ofBool scheme ++ modBits modType ++ outcomeBits outcome ++ 0x90#8], [])
  | .dataInd rxfr payload time =>
    ((0#12 ++ (rxfr.header.sc.extractLsb' 0 10).setWidth 12 ++ 0x91#8 : Word) :: time :: rxfr.words, payload)
  | .getConfirm reg valid value =>
    ([0#15 ++ BitVec.ofBool (!valid) ++ reg ++ 0x92#8, value], [])

/-! ## Turns -/

/-- The turn is taken off the stream, and the outputs of the step before it are gone (log entry 4). -/
def State.takeTurn (s : State) (rest : List Input) : State :=
  { s with inputs := rest, response := none, effects := [] }

/-- `Now` and `Rnd` as the operation samples them (R6). -/
def State.sample (s : State) (now : Word) (rnd : BitVec 16) : State := { s with now := now, rnd := rnd }

/-- The answer to a command that matches no row of the table (R105): no state changes, nothing is emitted. -/
def State.illegal (s : State) : State := s.respond .errIllegal 0#24

/-- The host writes a byte of `REQMEM` through its own memory port (R60, R61). -/
def State.writeReqmem (s : State) (off : BitVec 16) (b : Byte) : State :=
  { s with reqmem := Memory.write s.reqmem off.toNat b }

/-- The PHY, or the host, writes a byte of `RXBUF` (R60, R63). -/
def State.writeRxbuf (s : State) (off : BitVec 11) (b : Byte) : State :=
  { s with rxbuf := Memory.write s.rxbuf off.toNat b }

end Sys2Proof.Machine
end

