-- ==== Sys2Proof/Machine/Dispatch.lean ====
section
/-! DEFINITION. One arm per operation of `spec/opcode_table.json`. -/

namespace Sys2Proof.Machine

/-- The meaning of an operation (`30_encoding.md` R100). -/
def exec (i : Instr) (s : State) : Host.Outcome State Fault Refusal :=
  match i with
  | .reset clr => Sys2Proof.Machine.execReset clr s
  | .get reg => Sys2Proof.Machine.execGet reg s
  | .set reg value => Sys2Proof.Machine.execSet reg value s
  | .txreq => Sys2Proof.Machine.execTxreq s
  | .poll => Sys2Proof.Machine.execPoll s
  | .txcfm status time => Sys2Proof.Machine.execTxcfm status time s
  | .rxind len ack time => Sys2Proof.Machine.execRxind len ack time s
  | .ackind delim sub fcs => Sys2Proof.Machine.execAckind delim sub fcs s
  | .crc16 len => Sys2Proof.Machine.execCrc16 len s
  | .hdrlen => Sys2Proof.Machine.execHdrlen s
  | .decode len => Sys2Proof.Machine.execDecode len s
  | .encode len off => Sys2Proof.Machine.execEncode len off s
  | .phycalc load => Sys2Proof.Machine.execPhycalc load s
  | .backoff prio bcast => Sys2Proof.Machine.execBackoff prio bcast s
  | .accfail prio => Sys2Proof.Machine.execAccfail prio s
  | .accok => Sys2Proof.Machine.execAccok s
  | .compensate => Sys2Proof.Machine.execCompensate s
  | .nextseg seg off => Sys2Proof.Machine.execNextseg seg off s
  | .segdone => Sys2Proof.Machine.execSegdone s
  | .fallback retries => Sys2Proof.Machine.execFallback retries s

end Sys2Proof.Machine
end

