-- ==== Sys2Proof/Machine/Step.lean ====
section
/-! DEFINITION. One step: the environment's next turn at the block's ports (`00_scope.md` R5, R6; log entries 1, 2). -/

namespace Sys2Proof.Machine

/-- One step. A command is decoded from its words alone and executed with the draws it is presented with (R6); one that
matches no row is answered `ERR_ILLEGAL` (R105). Environment writes stand between operations (R60). With nothing
presented the block holds its state (R301). -/
def step (s : State) : Host.Outcome State Fault Refusal :=
  match s.inputs with
  | [] => .next (s.takeTurn [])
  | .reqmemWrite off b :: rest => .next ((s.takeTurn rest).writeReqmem off b)
  | .rxbufWrite off b :: rest => .next ((s.takeTurn rest).writeRxbuf off b)
  | .command now rnd cmd :: rest =>
    match Sys2Proof.decode cmd with
    | some i => exec i ((s.takeTurn rest).sample now rnd)
    | none => .next ((s.takeTurn rest).sample now rnd).illegal

/-- `s` with the command of these bits presented next, drawn at the port values `s` holds (log entry 1). -/
def State.withFetchWord (s : State) (nbits w : Nat) : State :=
  { s with inputs := .command s.now s.rnd (commandOfBits nbits w) :: s.inputs }

end Sys2Proof.Machine
end

