-- ==== Sys2Proof/Safety.lean ====
section
/-! DEFINITION. What claims are stated in: the next state of an outcome, what a step emitted, which bytes and register
bits a claim is about, the transition table of R270, the iteration of R197, and the invariant of the states the block
can be in (`10_state.md`, `42_csma_backoff.md` R180). -/

namespace Sys2Proof.Machine

/-- The next state of an outcome, none when the machine stopped. -/
def nextOf (o : Host.Outcome State Fault Refusal) : Option State :=
  match o with
  | .next s => some s
  | .fault _ => none
  | .refused _ => none

/-- The effect is a `TX_CONFIRM`. -/
def Effect.isTxConfirm (e : Effect) : Bool :=
  match e with
  | .txConfirm _ _ _ => true
  | .phyTxReq _ _ _ _ _ _ => false
  | .phyAckReq _ _ _ _ => false
  | .phySetParams _ _ _ _ => false
  | .dataInd _ _ _ => false
  | .getConfirm _ _ _ => false

/-- The effect is a `PHY_TX_REQ`. -/
def Effect.isTxReq (e : Effect) : Bool :=
  match e with
  | .phyTxReq _ _ _ _ _ _ => true
  | .txConfirm _ _ _ => false
  | .phyAckReq _ _ _ _ => false
  | .phySetParams _ _ _ _ => false
  | .dataInd _ _ _ => false
  | .getConfirm _ _ _ => false

/-- The effect is a `PHY_SET_PARAMS`. -/
def Effect.isSetParams (e : Effect) : Bool :=
  match e with
  | .phySetParams _ _ _ _ => true
  | .phyTxReq _ _ _ _ _ _ => false
  | .txConfirm _ _ _ => false
  | .phyAckReq _ _ _ _ => false
  | .dataInd _ _ _ => false
  | .getConfirm _ _ _ => false

/-! ## Effects of a step -/

/-- What a step emitted beyond what `s` already held. -/
def newEffects (s t : State) : List Effect := t.effects.drop s.effects.length

/-- How many of a list of effects a test picks. -/
def countBy (p : Effect → Bool) (l : List Effect) : Nat := (l.filter p).length

/-- How many `TX_CONFIRM` the first `n` steps from `s` emit. -/
def confirmCount (n : Nat) (s : State) : Nat :=
  match n with
  | 0 => 0
  | k + 1 =>
    match step s with
    | .next t => countBy Effect.isTxConfirm t.effects + confirmCount k t
    | .fault _ => 0
    | .refused _ => 0

/-- The state after `n` steps, none when the machine stopped. -/
def stateAfter (n : Nat) (s : State) : Option State :=
  match n with
  | 0 => some s
  | k + 1 =>
    match step s with
    | .next t => stateAfter k t
    | .fault _ => none
    | .refused _ => none

/-- The next turn is a `RESET`. -/
def nextIsReset (s : State) : Bool :=
  match s.inputs with
  | .command _ _ c :: _ =>
    match Sys2Proof.decode c with
    | some (.reset _) => true
    | _ => false
  | _ => false

/-! ## Bytes and register bits -/

/-- Every byte of the three memories reads in `t` as in `s`. -/
def sameBytes (s t : State) : Prop :=
  (∀ a, Memory.read t.txbuf a = Memory.read s.txbuf a) ∧ (∀ a, Memory.read t.rxbuf a = Memory.read s.rxbuf a) ∧
    (∀ a, Memory.read t.reqmem a = Memory.read s.reqmem a)

/-- `TXBUF[0 .. l-1]` holds the list, every other byte of the three memories reads in `t` as in `s`. -/
def txbufHolds (s t : State) (l : List Byte) : Prop :=
  (∀ k (h : k < l.length), Memory.read t.txbuf k = l[k]) ∧
    (∀ a, l.length ≤ a → Memory.read t.txbuf a = Memory.read s.txbuf a) ∧
    (∀ a, Memory.read t.rxbuf a = Memory.read s.rxbuf a) ∧ (∀ a, Memory.read t.reqmem a = Memory.read s.reqmem a)

/-- The bits of an `RW` register that a write stores (`10_state.md` R24 to R29, R32, R204): its field, and for
`TXFR_FC` the field without its hardwired bits 9..7. 0 for the `RO` registers. -/
def writableBits (r : Reg) : Word :=
  match r with
  | .cfg .panId | .cfg .shortAddr | .cfg .hpWindow => 0xFFFF#32
  | .cfg .minBE | .cfg .maxBE => 0xF#32
  | .cfg .minCwAttempts | .cfg .fairLimit | .cfg .csmaA | .cfg .csmaK | .cfg .maxCsmaBackoffs => 0xFF#32
  | .cfg .maxFrameRetries | .cfg .robustBelow => 0xFF#32
  | .cfg .macFlags => 0x7#32
  | .cfg _ => 0xFFFFFFFF#32
  | .txd .len | .txd .ctrl | .txd .dstPan | .txd .secHi => 0xFFFF#32
  | .txd .toneMap => 0xFFFFFF#32
  | .txd _ => 0xFFFFFFFF#32
  | .txfr .sc => 0x7FFFF#32
  | .txfr .fc => 0xFC7F#32
  | .txfr .seq => 0xFF#32
  | .txfr .dstPan | .txfr .srcPan | .txfr .secHi => 0xFFFF#32
  | .txfr _ => 0xFFFFFFFF#32
  | .status _ | .cnt _ | .snap _ | .rxfr _ | .rx _ => 0#32

/-! ## The register map -/

/-- Every implemented register but `STATE`, with its number and the field of the state it reads, row by row from the
tables of R24 to R27, R30 to R32, R35, R40 (0x41 to 0x53), R39, R34, R29, R32 and R33. -/
def registerMap (s : State) : List (Reg × BitVec 8 × Word) :=
  [(.cfg .panId, 0x00#8, s.cfg.panId.setWidth 32), (.cfg .shortAddr, 0x01#8, s.cfg.shortAddr.setWidth 32),
      (.cfg .extAddrLo, 0x02#8, s.cfg.extAddrLo), (.cfg .extAddrHi, 0x03#8, s.cfg.extAddrHi),
      (.cfg .minBE, 0x04#8, s.cfg.minBE.setWidth 32), (.cfg .maxBE, 0x05#8, s.cfg.maxBE.setWidth 32),
      (.cfg .hpWindow, 0x06#8, s.cfg.hpWindow.setWidth 32), (.cfg .slotTime, 0x07#8, s.cfg.slotTime),
      (.cfg .minCwAttempts, 0x08#8, s.cfg.minCwAttempts.setWidth 32),
      (.cfg .fairLimit, 0x09#8, s.cfg.fairLimit.setWidth 32), (.cfg .csmaA, 0x0A#8, s.cfg.csmaA.setWidth 32),
      (.cfg .csmaK, 0x0B#8, s.cfg.csmaK.setWidth 32),
      (.cfg .maxCsmaBackoffs, 0x0C#8, s.cfg.maxCsmaBackoffs.setWidth 32),
      (.cfg .maxFrameRetries, 0x0D#8, s.cfg.maxFrameRetries.setWidth 32),
      (.cfg .robustBelow, 0x0E#8, s.cfg.robustBelow.setWidth 32),
      (.cfg .macFlags, 0x0F#8, s.cfg.macFlags.setWidth 32), (.cfg .eifsTime, 0x10#8, s.cfg.eifsTime),
      (.cfg .cifsTime, 0x11#8, s.cfg.cifsTime), (.cfg .rcifsTime, 0x12#8, s.cfg.rcifsTime),
      (.cfg .cpTime, 0x13#8, s.cfg.cpTime), (.cfg .rifsTime, 0x14#8, s.cfg.rifsTime),
      (.cfg .ackTime, 0x15#8, s.cfg.ackTime), (.cfg .leadTime, 0x16#8, s.cfg.leadTime),
      (.cfg .toneMask0, 0x17#8, s.cfg.toneMask0), (.cfg .toneMask1, 0x18#8, s.cfg.toneMask1),
      (.cfg .toneMask2, 0x19#8, s.cfg.toneMask2)] ++
    [(.status .occEntered, 0x41#8, s.mac.occEntered), (.status .txEntered, 0x42#8, s.mac.txEntered),
      (.status .cw, 0x43#8, s.csma.cw.setWidth 32), (.status .minCwStreak, 0x44#8, s.csma.minCwStreak.setWidth 32),
      (.status .nb, 0x45#8, s.csma.nb.setWidth 32), (.status .nbf, 0x46#8, s.csma.nbf.setWidth 32),
      (.status .retriesLeft, 0x47#8, s.sess.retriesLeft.setWidth 32),
      (.status .segIndex, 0x48#8, s.sess.segIndex.setWidth 32),
      (.status .sentOffset, 0x49#8, s.sess.sentOffset.setWidth 32),
      (.status .segLen, 0x4A#8, s.sess.segLen.setWidth 32), (.status .txLen, 0x4B#8, s.sess.txLen.setWidth 32),
      (.status .txFcs, 0x4C#8, s.sess.txFcs.setWidth 32), (.status .backoff, 0x4E#8, s.csma.backoff),
      (.status .periodWait, 0x4F#8, s.csma.periodWait), (.status .dsn, 0x50#8, s.sess.dsn.setWidth 32),
      (.status .reqSeq, 0x51#8, s.sess.reqSeq.setWidth 32), (.status .txTime, 0x52#8, s.sess.txTime),
      (.status .maxSegPayload, 0x53#8, s.sess.maxSegPayload.setWidth 32)] ++
    [(.cnt .badCrc, 0x58#8, s.cnt.badCrc), (.cnt .malformed, 0x59#8, s.cnt.malformed),
      (.cnt .lastReject, 0x5A#8, (rejectBits s.cnt.lastReject).setWidth 32)] ++
    [(.snap .mod, 0x60#8,
        0#27 ++ BitVec.ofBool s.snap.twoRs ++ BitVec.ofBool s.snap.scheme ++ modBits s.snap.modType),
      (.snap .toneMap, 0x61#8, s.snap.toneMap.setWidth 32), (.snap .toneMask0, 0x62#8, s.snap.toneMask0),
      (.snap .toneMask1, 0x63#8, s.snap.toneMask1), (.snap .toneMask2, 0x64#8, s.snap.toneMask2),
      (.snap .gain, 0x65#8, s.snap.gain), (.snap .bpc, 0x66#8, s.snap.bpc.setWidth 32),
      (.snap .rep, 0x67#8, s.snap.rep.setWidth 32), (.snap .parity, 0x68#8, s.snap.parity.setWidth 32),
      (.snap .maxPhy, 0x69#8, s.snap.maxPhy.setWidth 32)] ++
    [(.txd .len, 0x80#8, s.txd.len.setWidth 32), (.txd .ctrl, 0x81#8, s.txd.ctrl.setWidth 32),
      (.txd .dstPan, 0x82#8, s.txd.dstPan.setWidth 32), (.txd .dstLo, 0x83#8, s.txd.dstLo),
      (.txd .dstHi, 0x84#8, s.txd.dstHi), (.txd .toneMap, 0x85#8, s.txd.toneMap.setWidth 32),
      (.txd .gain, 0x86#8, s.txd.gain), (.txd .secLo, 0x87#8, s.txd.secLo),
      (.txd .secHi, 0x88#8, s.txd.secHi.setWidth 32)] ++
    [(.txfr .sc, 0xA0#8, s.txfr.sc.setWidth 32), (.txfr .fc, 0xA1#8, s.txfr.fc.setWidth 32),
      (.txfr .seq, 0xA2#8, s.txfr.seq.setWidth 32), (.txfr .dstPan, 0xA3#8, s.txfr.dstPan.setWidth 32),
      (.txfr .dstLo, 0xA4#8, s.txfr.dstLo), (.txfr .dstHi, 0xA5#8, s.txfr.dstHi),
      (.txfr .srcPan, 0xA6#8, s.txfr.srcPan.setWidth 32), (.txfr .srcLo, 0xA7#8, s.txfr.srcLo),
      (.txfr .srcHi, 0xA8#8, s.txfr.srcHi), (.txfr .secLo, 0xA9#8, s.txfr.secLo),
      (.txfr .secHi, 0xAA#8, s.txfr.secHi.setWidth 32)] ++
    [(.rxfr .sc, 0xC0#8, s.rxfr.header.sc.setWidth 32), (.rxfr .fc, 0xC1#8, s.rxfr.header.fc.setWidth 32),
      (.rxfr .seq, 0xC2#8, s.rxfr.header.seq.setWidth 32),
      (.rxfr .dstPan, 0xC3#8, s.rxfr.header.dstPan.setWidth 32), (.rxfr .dstLo, 0xC4#8, s.rxfr.header.dstLo),
      (.rxfr .dstHi, 0xC5#8, s.rxfr.header.dstHi), (.rxfr .srcPan, 0xC6#8, s.rxfr.header.srcPan.setWidth 32),
      (.rxfr .srcLo, 0xC7#8, s.rxfr.header.srcLo), (.rxfr .srcHi, 0xC8#8, s.rxfr.header.srcHi),
      (.rxfr .secLo, 0xC9#8, s.rxfr.header.secLo), (.rxfr .secHi, 0xCA#8, s.rxfr.header.secHi.setWidth 32)] ++
    [(.rx .padLen, 0xCB#8, s.rxfr.padLen.setWidth 32), (.rx .payOff, 0xCC#8, s.rxfr.payOff.setWidth 32),
      (.rx .fcs, 0xCD#8, s.rxfr.fcs.setWidth 32), (.rx .len, 0xCE#8, s.rxfr.len.setWidth 32)]

/-! ## Fields on the wire -/

/-- The frame bytes `b` hold the low `n` bytes of `v` at offset `p`, the least significant first (R86). -/
def fieldAt {w : Nat} (b : List Byte) (p n : Nat) (v : BitVec w) : Prop :=
  ∀ k, k < n → byteAt b (p + k) = v.extractLsb' (8 * k) 8

/-- The frame bytes `b` hold the addressing fields and the security header of `f`, each exactly when it is present, in
the order destination PAN, destination address, source PAN, source address, security header, without a gap from byte 6
on, and they end where the header ends (R80, R81, R82, R86, R87; R125: a side with the reserved mode is absent). -/
def addressingAt (f : Frame) (b : List Byte) : Prop :=
  let src := 6 + (if f.dstMode = .short then 4 else if f.dstMode = .extended then 10 else 0)
  let srcPan := if (f.srcMode = .short ∨ f.srcMode = .extended) ∧ f.panComp = false then 2 else 0
  let sec := src + srcPan + (if f.srcMode = .short then 2 else if f.srcMode = .extended then 8 else 0)
  (f.dstMode = .short → fieldAt b 6 2 f.dstPan ∧ fieldAt b 8 2 f.dstAddr) ∧
    (f.dstMode = .extended → fieldAt b 6 2 f.dstPan ∧ fieldAt b 8 8 f.dstAddr) ∧
    (f.srcMode = .short → f.panComp = false → fieldAt b src 2 f.srcPan) ∧
    (f.srcMode = .extended → f.panComp = false → fieldAt b src 2 f.srcPan) ∧
    (f.srcMode = .short → fieldAt b (src + srcPan) 2 f.srcAddr) ∧
    (f.srcMode = .extended → fieldAt b (src + srcPan) 8 f.srcAddr) ∧
    (f.sec = true → f.segNum = 0#6 → fieldAt b sec 6 f.secHdr) ∧
    hdrLen f = sec + (if f.sec = true ∧ f.segNum = 0#6 then 6 else 0)

/-! ## The transition table of the transmit machine -/

/-- The rows of R270 but the last: from which sub-state to which an operation may move `STATE.TX`. -/
def txMoves (i : Instr) : List (TxSub × TxSub) :=
  match i with
  | .txreq => [(.none, .start)]
  | .poll =>
    [(.start, .csmaCa), (.start, .none), (.csmaCa, .waitSend), (.waitSend, .waitConfirm), (.failCsmaCa, .none),
      (.failCsmaCa, .csmaCa), (.failCsmaCa, .waitSend), (.waitAck, .bigFail), (.sendOk, .waitSend),
      (.sendOk, .none), (.littleFail, .none), (.littleFail, .waitSend), (.bigFail, .none), (.bigFail, .csmaCa)]
  | .txcfm .success _ => [(.waitConfirm, .waitAck), (.waitConfirm, .sendOk)]
  | .txcfm .busyChannelSense _ => [(.waitConfirm, .failCsmaCa)]
  | .txcfm .busyOwnRx _ => [(.waitConfirm, .failCsmaCa)]
  | .txcfm .busyOwnTx _ => [(.waitConfirm, .none)]
  | .txcfm (.unknown _) _ => [(.waitConfirm, .none)]
  | .rxind _ _ _ => [(.waitConfirm, .waitSend)]
  | .ackind .ack _ _ => [(.waitAck, .sendOk)]
  | .ackind .nack sub _ => [(.waitAck, if sub then .bigFail else .littleFail)]
  | .ackind (.other _) _ _ => []
  | .reset _ | .get _ | .set _ _ | .crc16 _ | .hdrlen | .decode _ | .encode _ _ | .phycalc _ => []
  | .backoff _ _ | .accfail _ | .accok | .compensate | .nextseg _ _ | .segdone | .fallback _ => []

/-! ## The iteration of R197 -/

/-- The states right after each `nextSeg()` of the iteration of R197 from `s`, until a segment with `lsf = 1` has been
built; none when a `SegFault` comes first or `fuel` segments do not suffice. -/
def segmentsFrom (rsPad : SnapIn → Nat → Nat) (fuel : Nat) (s : State) : Option (List State) :=
  match fuel with
  | 0 => none
  | k + 1 =>
    match s.nextSegWith rsPad with
    | none => none
    | some t =>
      if t.mac.moreFrag then
        (segmentsFrom rsPad k
          { t.segDone with sess := { t.segDone.sess with segIndex := t.sess.segIndex + 1#6 } }).map (t :: ·)
      else some [t]

/-! ## The invariant -/

/-- `minW <= CW <= maxW` (R180). -/
def windowInv (s : State) : Prop := s.cfg.minW ≤ s.csma.cw.toNat ∧ s.csma.cw.toNat ≤ s.cfg.maxW

/-- A memory in canonical form, inside its space. -/
def memoryInv (m : Memory) (size : Nat) : Prop := Memory.wf m = true ∧ Memory.within m size = true

/-- The frame-control register's bits 9..7 are 0 (R32, R134). -/
def fcReservedClear (b : FrameBank) : Prop := b.fc.extractLsb' 7 3 = 0#3

/-- The invariant of every state the block can be in: memories canonical and inside their spaces (R60), the window
between its bounds (R180), the on-air length inside `TXBUF` (R60, R196), hardwired bits 0 (R32, R134), a descriptor
`TXREQ` accepted while a request is active (R23, R205), and the flags only where R38 sets them. -/
structure Inv (s : State) : Prop where
  txbuf : memoryInv s.txbuf Config.frameBufLen
  rxbuf : memoryInv s.rxbuf Config.frameBufLen
  reqmem : memoryInv s.reqmem Config.reqmemLen
  window : windowInv s
  onAir : s.sess.txLen.toNat ≤ Config.frameBufLen
  txfrReserved : fcReservedClear s.txfr
  rxfrReserved : fcReservedClear s.rxfr.header
  descriptor : s.mac.tx ≠ .none → s.txd.unacceptable = false
  pendingActive : s.mac.compPending = true → s.mac.tx ≠ .none
  nbfPending : s.mac.compNbf = true → s.mac.compPending = true
  immediateSend : s.mac.immediate = true → s.mac.tx = .waitSend

end Sys2Proof.Machine
end

