-- ==== Sys2Proof/Certificates/Slice0/Obligations.lean ====
section
/-! DEFINITION. The statements for the provers. Rules R<n> are those of `spec/`. A statement about a next state says
`t = { s with ... }` where it can: every field not named there is unchanged, memories and the environment's stream
included. `some (rspWord c r)` is the response word of code `c` with result `r` (R103). -/

open Sys2Proof Sys2Proof.Machine

/-! ## Decoding and the command port -/

/-- Decode and encode agree: every well-formed operation is read back from its words, every operand at every value the
formats admit (R100, R101, R102, R108). -/
def Obligations.DecodeOfEncode : Prop :=
  ∀ i : Instr, i.wellFormed = true → Sys2Proof.decode (Sys2Proof.encode i) = some i

/-- The decoder refuses exactly the `W0` that match no row of the opcode table, whatever `W1` and `W2`, and no `W0`
matches two rows (R100, R101, R105). -/
def Obligations.TableDecides : Prop :=
  (∀ c : Command, Sys2Proof.decode c = none ↔ ∀ r ∈ opcodeTable, r.fits c.w0 = false) ∧
    (∀ (w0 : Word) (r q : OpcodeRow), r ∈ opcodeTable → q ∈ opcodeTable → r.fits w0 = true → q.fits w0 = true → r = q)

/-- Words of `95_test_vectors.md` 2.1, one for each operation and so for each command format and family, decode to what
the table says; a word with a must-be-zero bit set decodes to none. -/
def Obligations.DecodedWords : Prop :=
  Sys2Proof.decode ⟨0x00000101#32, 0#32, 0#32⟩ = some (.reset true) ∧
    Sys2Proof.decode ⟨0x00004302#32, 0#32, 0#32⟩ = some (.get 0x43#8) ∧
    Sys2Proof.decode ⟨0x00000703#32, 0x64#32, 0#32⟩ = some (.set 7#8 100#32) ∧
    Sys2Proof.decode ⟨0x00000004#32, 0#32, 0#32⟩ = some .txreq ∧
    Sys2Proof.decode ⟨0x00000005#32, 0#32, 0#32⟩ = some .poll ∧
    Sys2Proof.decode ⟨0x00000110#32, 0x848#32, 0#32⟩ = some (.txcfm .busyChannelSense 2120#32) ∧
    Sys2Proof.decode ⟨0x00101111#32, 0x384#32, 0#32⟩ = some (.rxind 17#12 true 900#32) ∧
    Sys2Proof.decode ⟨0x00010312#32, 0xC94C#32, 0#32⟩ = some (.ackind .nack true 0xC94C#16) ∧
    Sys2Proof.decode ⟨0x00000920#32, 0#32, 0#32⟩ = some (.crc16 9#12) ∧
    Sys2Proof.decode ⟨0x00000021#32, 0#32, 0#32⟩ = some .hdrlen ∧
    Sys2Proof.decode ⟨0x00001122#32, 0#32, 0#32⟩ = some (.decode 17#12) ∧
    Sys2Proof.decode ⟨0x00001123#32, 0#32, 0#32⟩ = some (.encode 17#12 0#16) ∧
    Sys2Proof.decode ⟨0x00000124#32, 0#32, 0#32⟩ = some (.phycalc true) ∧
    Sys2Proof.decode ⟨0x00000225#32, 0#32, 0#32⟩ = some (.backoff false true) ∧
    Sys2Proof.decode ⟨0x00000126#32, 0#32, 0#32⟩ = some (.accfail true) ∧
    Sys2Proof.decode ⟨0x00000027#32, 0#32, 0#32⟩ = some .accok ∧
    Sys2Proof.decode ⟨0x00000028#32, 0#32, 0#32⟩ = some .compensate ∧
    Sys2Proof.decode ⟨0x00000229#32, 0xD4#32, 0#32⟩ = some (.nextseg 2#6 212#16) ∧
    Sys2Proof.decode ⟨0x0000002A#32, 0#32, 0#32⟩ = some .segdone ∧
    Sys2Proof.decode ⟨0x0000032B#32, 0#32, 0#32⟩ = some (.fallback 3#8) ∧
    Sys2Proof.decode ⟨0x00100920#32, 0#32, 0#32⟩ = none

/-- A step runs the decoded instruction: with a command presented whose words decode to `i`, the step is `exec i` on the
state that has taken the turn, dropped the outputs of the step before it, and sampled `Now` and `Rnd` (R6; log entries
1, 3, 4 for the fields this uses). -/
def Obligations.StepRunsDecoded : Prop :=
  ∀ (s : State) (now : Word) (rnd : BitVec 16) (c : Command) (rest : List Input) (i : Instr),
    s.inputs = .command now rnd c :: rest → Sys2Proof.decode c = some i →
    step s = exec i { s with inputs := rest, response := none, effects := [], now := now, rnd := rnd }

/-- A command that matches no row, in particular one with a reserved opcode, is answered `ERR_ILLEGAL` and changes no
state (R105). -/
def Obligations.IllegalCommand : Prop :=
  ∀ (s : State) (now : Word) (rnd : BitVec 16) (c : Command) (rest : List Input),
    s.inputs = .command now rnd c :: rest →
    ((∀ r ∈ opcodeTable, r.fits c.w0 = false) ∨
      (c.w0.extractLsb' 0 8 = 0x00#8 ∨ (0x06 ≤ (c.w0.extractLsb' 0 8).toNat ∧ (c.w0.extractLsb' 0 8).toNat ≤ 0x0F) ∨
        (0x13 ≤ (c.w0.extractLsb' 0 8).toNat ∧ (c.w0.extractLsb' 0 8).toNat ≤ 0x1F) ∨
        0x2C ≤ (c.w0.extractLsb' 0 8).toNat)) →
    step s = .next { s with inputs := rest, now := now, rnd := rnd, response := some 1#32, effects := [] }

/-- The environment's writes between operations reach one byte each, and with nothing presented the block holds its
state (R60, R301). That a write is a turn of its own is the model's choice (log entry 2). -/
def Obligations.EnvironmentTurns : Prop :=
  ∀ (s : State) (rest : List Input),
    (s.inputs = [] → step s = .next { s with response := none, effects := [] }) ∧
    (∀ (off : BitVec 16) (b : Byte), s.inputs = .reqmemWrite off b :: rest →
      ∃ t, step s = .next t ∧
        t = { s with inputs := rest, response := none, effects := [], reqmem := t.reqmem } ∧
        Memory.read t.reqmem off.toNat = b ∧
        ∀ a, a ≠ off.toNat → Memory.read t.reqmem a = Memory.read s.reqmem a) ∧
    (∀ (off : BitVec 11) (b : Byte), s.inputs = .rxbufWrite off b :: rest →
      ∃ t, step s = .next t ∧
        t = { s with inputs := rest, response := none, effects := [], rxbuf := t.rxbuf } ∧
        Memory.read t.rxbuf off.toNat = b ∧
        ∀ a, a ≠ off.toNat → Memory.read t.rxbuf a = Memory.read s.rxbuf a)

/-! ## Frame Codec -/

/-- Round trip (R141): every well-formed record encodes at every total length from its expected length on, to that many
bytes, and decodes back to itself with the padding it was given. -/
def Obligations.FrameRoundTrip : Prop :=
  ∀ (f : Frame) (total : Nat), f.wf = true → expected f ≤ total →
    ∃ b, encodeFrame f total = some b ∧ b.length = total ∧ decodeFrame b = .ok f (total - expected f)

/-- The bytes of an encoded frame (R80 to R88, R138): it fails below the expected length; else it has exactly the length
asked for, the fixed fields at their bits with the reserved bits 0, the addressing fields and the security header at their
offsets, least significant byte first, payload, zero padding, and the check sequence of all before it, low byte first. -/
def Obligations.EncodedFrameBytes : Prop :=
  ∀ (f : Frame) (total : Nat), f.payload.length = f.segLen.toNat →
    (total < expected f → encodeFrame f total = none) ∧
    (expected f ≤ total →
      ∃ b, encodeFrame f total = some b ∧ b.length = total ∧
        (byteAt b 0).toNat = 8 * f.tmr.toNat + 2 * f.cap.toNat + f.lsf.toNat ∧
        (byteAt b 1).toNat = 4 * f.segNum.toNat + f.segLen.toNat / 256 ∧
        (byteAt b 2).toNat = f.segLen.toNat % 256 ∧
        (byteAt b 3).toNat + 256 * (byteAt b 4).toNat =
          f.ftype.toNat + 8 * f.sec.toNat + 16 * f.pending.toNat + 32 * f.ackReq.toNat + 64 * f.panComp.toNat +
            1024 * (addrModeBits f.dstMode).toNat + 4096 * f.version.toNat + 16384 * (addrModeBits f.srcMode).toNat ∧
        byteAt b 5 = f.seq ∧
        b.take (hdrLen f) = headerBytes f ∧
        (b.drop (hdrLen f)).take f.segLen.toNat = f.payload ∧
        (∀ k, hdrLen f + f.segLen.toNat ≤ k → k + 2 < total → byteAt b k = 0#8) ∧
        addressingAt f b ∧ fieldAt b (total - 2) 2 (crc16 (b.take (total - 2))) ∧
        fcsOf b = crc16 (b.take (total - 2)))

/-- An accepted frame is well-formed, its pad length is what is left of the received length, and its payload follows its
header (R90, R129, R135). Its fields are those of its bytes, whatever the reserved bits and the padding are (R83, R84,
R85, R91): the fixed fields their bits, the addressing fields and the security header the bytes at their offsets, and an
absent field its canonical value. -/
def Obligations.AcceptedFrame : Prop :=
  ∀ (b : List Byte) (f : Frame) (pad : Nat), decodeFrame b = .ok f pad →
    f.wf = true ∧ expected f + pad = b.length ∧ f.payload = (b.drop (hdrLen f)).take f.segLen.toNat ∧
      (f.tmr = (byteAt b 0).getLsbD 3 ∧ f.cap = (byteAt b 0).getLsbD 1 ∧ f.lsf = (byteAt b 0).getLsbD 0 ∧
        f.segNum = (byteAt b 1).extractLsb' 2 6 ∧ f.segLen = (byteAt b 1).extractLsb' 0 2 ++ byteAt b 2 ∧
        f.ftype = (byteAt b 3).extractLsb' 0 3 ∧ f.sec = (byteAt b 3).getLsbD 3 ∧ f.pending = (byteAt b 3).getLsbD 4 ∧
        f.ackReq = (byteAt b 3).getLsbD 5 ∧ f.panComp = (byteAt b 3).getLsbD 6 ∧
        addrModeBits f.dstMode = (byteAt b 4).extractLsb' 2 2 ∧ f.version = (byteAt b 4).extractLsb' 4 2 ∧
        addrModeBits f.srcMode = (byteAt b 4).extractLsb' 6 2 ∧ f.seq = byteAt b 5) ∧
      addressingAt f b ∧
      (f.dstMode = .none → f.dstPan = 0#16 ∧ f.dstAddr = 0#64) ∧
      (f.dstMode = .short → f.dstAddr.extractLsb' 16 48 = 0#48) ∧
      (f.srcMode = .none → f.srcPan = 0#16 ∧ f.srcAddr = 0#64) ∧
      (f.srcMode = .short → f.srcAddr.extractLsb' 16 48 = 0#48) ∧
      (f.srcMode ≠ .none → f.panComp = true → f.srcPan = f.dstPan) ∧
      (¬ (f.sec = true ∧ f.segNum = 0#6) → f.secHdr = 0#48)

/-- A rejected frame reports its first defect in the order of R129 and R133, each defect read from the frame's bytes
(R83, R84); a frame with none is accepted. -/
def Obligations.RejectionOrder : Prop :=
  ∀ b : List Byte,
    (b.length < 8 → decodeFrame b = .reject .short) ∧
    (8 ≤ b.length →
      (crc16 (b.take (b.length - 2)) ≠ fcsOf b → decodeFrame b = .reject .badCrc) ∧
      (crc16 (b.take (b.length - 2)) = fcsOf b →
        (4 ≤ ((byteAt b 3).extractLsb' 0 3).toNat → decodeFrame b = .reject .badType) ∧
        (((byteAt b 3).extractLsb' 0 3).toNat < 4 →
          ((byteAt b 3).getLsbD 4 = true → decodeFrame b = .reject .pending) ∧
          ((byteAt b 3).getLsbD 4 = false →
            ((byteAt b 4).extractLsb' 2 2 = 1#2 ∨ (byteAt b 4).extractLsb' 6 2 = 1#2 →
              decodeFrame b = .reject .badAddrMode) ∧
            ((byteAt b 4).extractLsb' 2 2 ≠ 1#2 → (byteAt b 4).extractLsb' 6 2 ≠ 1#2 →
              (b.length < expected (decodeFixed b) → decodeFrame b = .reject .length) ∧
              (expected (decodeFixed b) ≤ b.length →
                ((byteAt b 4).extractLsb' 6 2 = 2#2 → leAt 16 b (srcAddrOffset (decodeFixed b)) 2 = 0xFFFF#16 →
                  decodeFrame b = .reject .srcUndefined) ∧
                ((byteAt b 4).extractLsb' 6 2 ≠ 2#2 ∨ leAt 16 b (srcAddrOffset (decodeFixed b)) 2 ≠ 0xFFFF#16 →
                  ∃ f pad, decodeFrame b = .ok f pad)))))))

/-- The CRC-16 is the bitwise computation of R120, with its check values, and appending the check sequence, low byte
first, leaves residue 0 (R121 (a), R123). -/
def Obligations.CrcDefinition : Prop :=
  crc16 [] = 0#16 ∧
    (∀ (b : List Byte) (x : Byte),
      crc16 (b ++ [x]) =
        Nat.repeat (fun c : BitVec 16 => if c.getLsbD 0 then (c >>> 1) ^^^ 0x8408#16 else c >>> 1) 8
          (crc16 b ^^^ x.setWidth 16)) ∧
    crc16 [0x01#8] = 0x1189#16 ∧ crc16 [0xFF#8] = 0x0F78#16 ∧
    crc16 [0x31#8, 0x32#8, 0x33#8, 0x34#8, 0x35#8, 0x36#8, 0x37#8, 0x38#8, 0x39#8] = 0x2189#16 ∧
    (∀ m : List Byte, crc16 (m ++ [(crc16 m).extractLsb' 0 8, (crc16 m).extractLsb' 8 8]) = 0#16)

/-- Rejection by the check sequence (R142): one inverted bit outside the check sequence is always `BAD_CRC`. -/
def Obligations.BitFlipRejected : Prop :=
  ∀ (f : Frame) (total : Nat) (b : List Byte) (k j : Nat),
    f.payload.length = f.segLen.toNat → encodeFrame f total = some b → k + 2 < total → j < 8 →
    decodeFrame (b.set k (byteAt b k ^^^ BitVec.twoPow 8 j)) = .reject .badCrc

/-- The header length formula, its range, and that it is the number of bytes before the payload (R89); a reserved
addressing mode counts as absent (R125). -/
def Obligations.HeaderLength : Prop :=
  ∀ f : Frame,
    hdrLen f =
      6 +
        (if f.dstMode = .none ∨ f.dstMode = .reserved then 0 else if f.dstMode = .short then 4 else 10) +
        (if f.srcMode = .none ∨ f.srcMode = .reserved then 0
          else (if f.panComp then 0 else 2) + (if f.srcMode = .short then 2 else 8)) +
        (if f.sec = true ∧ f.segNum = 0#6 then 6 else 0) ∧
    6 ≤ hdrLen f ∧ hdrLen f ≤ 32 ∧ (headerBytes f).length = hdrLen f ∧ overhead f = hdrLen f + 2

/-- `CRC16 len` (R122) and `HDRLEN` (R126), with no request active: the one answers the CRC of the first `len` bytes of
`RXBUF` (a length above 2048 is `ERR_PARAM`), the other the header length of the record in TXFR, read from the bits of
`TXFR_FC` and `TXFR_SC`; neither changes anything but the response. -/
def Obligations.Crc16AndHdrlen : Prop :=
  ∀ s : State, s.mac.tx = .none →
    (∀ len : BitVec 12, len.toNat ≤ 2048 →
      ∃ b : List Byte, b.length = len.toNat ∧ (∀ k, k < b.length → byteAt b k = Memory.read s.rxbuf k) ∧
        exec (.crc16 len) s =
          .next { s with response := some (rspWord .ok (BitVec.ofNat 24 (crc16 b).toNat)) }) ∧
    (∀ len : BitVec 12, 2048 < len.toNat →
      exec (.crc16 len) s = .next { s with response := some (rspWord .errParam 0#24) }) ∧
    exec .hdrlen s =
      .next
        { s with
          response :=
            some
              (rspWord .ok
                (BitVec.ofNat 24
                  (6 +
                    (if s.txfr.fc.extractLsb' 10 2 = 2#2 then 4
                      else if s.txfr.fc.extractLsb' 10 2 = 3#2 then 10 else 0) +
                    (if s.txfr.fc.extractLsb' 14 2 = 2#2 then (if s.txfr.fc.getLsbD 6 then 2 else 4)
                      else if s.txfr.fc.extractLsb' 14 2 = 3#2 then (if s.txfr.fc.getLsbD 6 then 8 else 10) else 0) +
                    (if s.txfr.fc.getLsbD 3 = true ∧ s.txfr.sc.extractLsb' 10 6 = 0#6 then 6 else 0)))) }

/-- `DECODE len` (R130, R131, R134), with no request active: a rejection is counted once, recorded, and answered as the
result of an `OK` response, RXFR untouched; an accepted frame writes all 15 registers of RXFR and nothing else; a length
above 2048 is `ERR_PARAM`. -/
def Obligations.DecodeOperation : Prop :=
  ∀ (s : State) (len : BitVec 12), s.mac.tx = .none →
    (2048 < len.toNat → exec (.decode len) s = .next { s with response := some (rspWord .errParam 0#24) }) ∧
    (len.toNat ≤ 2048 →
      (decodeFrame (Memory.readRun s.rxbuf 0 len.toNat) = .reject .badCrc →
        exec (.decode len) s =
          .next
            { s with
              cnt := { s.cnt with badCrc := s.cnt.badCrc + 1#32, lastReject := .badCrc }
              response := some (rspWord .ok 2#24) }) ∧
      (∀ code, code ≠ .badCrc → decodeFrame (Memory.readRun s.rxbuf 0 len.toNat) = .reject code →
        exec (.decode len) s =
          .next
            { s with
              cnt := { s.cnt with malformed := s.cnt.malformed + 1#32, lastReject := code }
              response := some (rspWord .ok ((rejectBits code).setWidth 24)) }) ∧
      (∀ (f : Frame) (pad : Nat), decodeFrame (Memory.readRun s.rxbuf 0 len.toNat) = .ok f pad →
        ∃ t, exec (.decode len) s = .next t ∧
          t = { s with rxfr := t.rxfr, response := some (rspWord .ok 0#24) } ∧
          t.rxfr.header.sc.toNat =
            f.segLen.toNat + 1024 * f.segNum.toNat + 65536 * f.lsf.toNat + 131072 * f.cap.toNat +
              262144 * f.tmr.toNat ∧
          t.rxfr.header.fc.toNat =
            f.ftype.toNat + 8 * f.sec.toNat + 16 * f.pending.toNat + 32 * f.ackReq.toNat + 64 * f.panComp.toNat +
              1024 * (addrModeBits f.dstMode).toNat + 4096 * f.version.toNat +
                16384 * (addrModeBits f.srcMode).toNat ∧
          t.rxfr.header.seq = f.seq ∧ t.rxfr.header.dstPan = f.dstPan ∧ t.rxfr.header.srcPan = f.srcPan ∧
          t.rxfr.header.dstHi ++ t.rxfr.header.dstLo = f.dstAddr ∧
          t.rxfr.header.srcHi ++ t.rxfr.header.srcLo = f.srcAddr ∧
          t.rxfr.header.secHi ++ t.rxfr.header.secLo = f.secHdr ∧
          t.rxfr.padLen.toNat = pad ∧ t.rxfr.payOff.toNat = hdrLen f ∧
          t.rxfr.fcs = fcsOf (Memory.readRun s.rxbuf 0 len.toNat) ∧ t.rxfr.len = len))

/-- `ENCODE len, off` (R32, R140), with no request active: the record whose header fields are the bits of TXFR and whose
payload is the `REQMEM` bytes at `off` is encoded into `TXBUF[0 .. len-1]`, every other byte kept, and `TX_LEN`, `TX_FCS`
follow; a length above 2048 or below the expected one, or a payload beyond `REQMEM`, is `ERR_PARAM` without effect. The
reserved bits 9..7 of `TXFR_FC` belong to no field. -/
def Obligations.EncodeOperation : Prop :=
  ∀ (s : State) (len : BitVec 12) (off : BitVec 16) (f : Frame), s.mac.tx = .none →
    f.segLen = s.txfr.sc.extractLsb' 0 10 → f.segNum = s.txfr.sc.extractLsb' 10 6 →
    f.lsf = s.txfr.sc.getLsbD 16 → f.cap = s.txfr.sc.getLsbD 17 → f.tmr = s.txfr.sc.getLsbD 18 →
    f.ftype = s.txfr.fc.extractLsb' 0 3 → f.sec = s.txfr.fc.getLsbD 3 → f.pending = s.txfr.fc.getLsbD 4 →
    f.ackReq = s.txfr.fc.getLsbD 5 → f.panComp = s.txfr.fc.getLsbD 6 →
    addrModeBits f.dstMode = s.txfr.fc.extractLsb' 10 2 → f.version = s.txfr.fc.extractLsb' 12 2 →
    addrModeBits f.srcMode = s.txfr.fc.extractLsb' 14 2 → f.seq = s.txfr.seq →
    f.dstPan = s.txfr.dstPan → f.srcPan = s.txfr.srcPan →
    f.dstAddr = s.txfr.dstHi ++ s.txfr.dstLo → f.srcAddr = s.txfr.srcHi ++ s.txfr.srcLo →
    f.secHdr = s.txfr.secHi ++ s.txfr.secLo →
    f.payload.length = f.segLen.toNat →
    (∀ k, k < f.payload.length → byteAt f.payload k = Memory.read s.reqmem (off.toNat + k)) →
    (len.toNat ≤ 2048 → expected f ≤ len.toNat → off.toNat + f.segLen.toNat ≤ 65536 →
      ∃ b t,
        encodeFrame f len.toNat = some b ∧
          b.length = len.toNat ∧
          exec (.encode len off) s = .next t ∧
          t =
            { s with
              txbuf := t.txbuf
              sess := { s.sess with txLen := len, txFcs := fcsOf b }
              response := some (rspWord .ok ((fcsOf b).setWidth 24)) } ∧
          txbufHolds s t b) ∧
    (2048 < len.toNat ∨ len.toNat < expected f ∨ 65536 < off.toNat + f.segLen.toNat →
      exec (.encode len off) s = .next { s with response := some (rspWord .errParam 0#24) })

/-! ## PHY Parameter Calculator and modulation fallback -/

/-- `PHYCALC load` (R153, R154, R157, R158), with no request active: the derived registers from the modulation type and
the open `maxPhyPayload`; with `load = 1` the inputs first come from the descriptor and the tone mask registers, and a
`MOD_TYPE` above 4 is `ERR_PARAM`. Everything outside the snapshot bank is kept. -/
def Obligations.PhycalcOperation : Prop :=
  ∀ s : State, s.mac.tx = .none →
    (∀ load : Bool, (load = true → (s.txd.ctrl.extractLsb' 12 3).toNat ≤ 4) →
      ∃ t, exec (.phycalc load) s = .next t ∧ t = { s with snap := t.snap, response := t.response } ∧
        t.response = some (rspWord .ok (t.snap.maxPhy.setWidth 24)) ∧
        t.snap.maxPhy.toNat = min (Config.maxPhyPayload t.snap.snapIn) 65535 ∧
        t.snap.bpc.toNat =
          (if t.snap.modType = .robust ∨ t.snap.modType = .bpsk then 1
            else if t.snap.modType = .qpsk then 2 else if t.snap.modType = .psk8 then 3 else 4) ∧
        t.snap.rep.toNat = (if t.snap.modType = .robust then 4 else 1) ∧
        t.snap.parity.toNat = (if t.snap.modType = .robust then 8 else 16) ∧
        (load = false → t.snap.snapIn = s.snap.snapIn) ∧
        (load = true →
          modBits t.snap.modType = s.txd.ctrl.extractLsb' 12 3 ∧ t.snap.scheme = s.txd.ctrl.getLsbD 15 ∧
            t.snap.twoRs = s.txd.ctrl.getLsbD 7 ∧ t.snap.toneMap = s.txd.toneMap ∧
            t.snap.toneMask0 = s.cfg.toneMask0 ∧ t.snap.toneMask1 = s.cfg.toneMask1 ∧
            t.snap.toneMask2 = s.cfg.toneMask2 ∧ t.snap.gain = s.txd.gain)) ∧
    (4 < (s.txd.ctrl.extractLsb' 12 3).toNat →
      exec (.phycalc true) s = .next { s with response := some (rspWord .errParam 0#24) })

/-- `FALLBACK retries` (R256, R258), with no request active: ROBUST when the retries are below the threshold, else one
notch down and never below ROBUST, so never an upgrade (R257); the derived registers follow a change; everything else,
scheme, tone map, tone mask and gain among it, is kept. With `ROBUST_BELOW = 2` and four retries 8PSK goes QPSK, BPSK,
ROBUST, ROBUST. -/
def Obligations.FallbackOperation : Prop :=
  (∀ (s : State) (r : BitVec 8), s.mac.tx = .none →
    ∃ t, exec (.fallback r) s = .next t ∧ t = { s with snap := t.snap, response := t.response } ∧
      t.response = some (rspWord .ok ((modBits t.snap.modType).setWidth 24)) ∧
      (modBits t.snap.modType).toNat =
        (if r.toNat < s.cfg.robustBelow.toNat then 0 else (modBits s.snap.modType).toNat - 1) ∧
      (t.snap.modType = s.snap.modType → t.snap = s.snap) ∧
      (t.snap.modType ≠ s.snap.modType →
        t.snap =
          { s.snap with
            modType := t.snap.modType
            bpc := bitsPerCarrier t.snap.modType
            rep := repetition t.snap.modType
            parity := parityBytes t.snap.modType
            maxPhy := BitVec.ofNat 16 (min (Config.maxPhyPayload t.snap.snapIn) 65535) })) ∧
    (∀ (n : BitVec 8) (t : ModType) (r : BitVec 8), (modBits (fallback n t r)).toNat ≤ (modBits t).toNat) ∧
    fallback 2#8 .psk8 3#8 = .qpsk ∧ fallback 2#8 .qpsk 2#8 = .bpsk ∧ fallback 2#8 .bpsk 1#8 = .robust ∧
    fallback 2#8 .robust 0#8 = .robust

/-! ## CSMA/CA Backoff Engine -/

/-- `BACKOFF prio, bcast` (R172, R173, R174, R175), with no request active and the window between its bounds (R180): the
slots, both waits, the streak and the window; `NB`, `NBF` and everything outside the engine are kept. -/
def Obligations.BackoffOperation : Prop :=
  ∀ (s : State) (prio bcast : Bool), s.mac.tx = .none → windowInv s →
    ∃ (t : State) (slots : Nat), exec (.backoff prio bcast) s = .next t ∧
      t = { s with csma := t.csma, response := t.response } ∧
      t.response = some (rspWord .ok (BitVec.ofNat 24 slots)) ∧
      t.csma.nb = s.csma.nb ∧ t.csma.nbf = s.csma.nbf ∧
      t.csma.backoff.toNat = slots * s.cfg.slotTime.toNat % 2 ^ 32 ∧
      (prio = true →
        slots = (if s.cfg.hpWindow = 0#16 then 0 else s.rnd.toNat % s.cfg.hpWindow.toNat) ∧
          t.csma.periodWait = s.cfg.slotTime ∧ t.csma.cw = s.csma.cw ∧ t.csma.minCwStreak = s.csma.minCwStreak) ∧
      (prio = false →
        t.csma.minCwStreak.toNat =
            (if s.csma.cw.toNat = 2 ^ s.cfg.minBE.toNat then min (s.csma.minCwStreak.toNat + 1) 255 else 0) ∧
          t.csma.cw.toNat =
            (if s.cfg.minCwAttempts.toNat < t.csma.minCwStreak.toNat then 2 ^ s.cfg.maxBE.toNat
              else s.csma.cw.toNat) ∧
          slots =
            s.rnd.toNat %
              (if bcast = true ∧ s.cfg.macFlags.getLsbD 0 = true then 2 ^ s.cfg.maxBE.toNat else t.csma.cw.toNat) ∧
          t.csma.periodWait.toNat = (1 + s.cfg.hpWindow.toNat) * s.cfg.slotTime.toNat % 2 ^ 32)

/-- `ACCFAIL prio` (R176, R177), with no request active and the window between its bounds: saturating counters, the
fairness branch, the doubling branch, and the abort condition as the result. -/
def Obligations.AccfailOperation : Prop :=
  ∀ (s : State) (prio : Bool), s.mac.tx = .none → windowInv s →
    ∃ t, exec (.accfail prio) s = .next t ∧
      t =
        { s with
          csma := { s.csma with nb := t.csma.nb, nbf := t.csma.nbf, cw := t.csma.cw }
          response := t.response } ∧
      t.response = some (rspWord .ok (if s.cfg.maxCsmaBackoffs.toNat ≤ t.csma.nb.toNat then 1#24 else 0#24)) ∧
      t.csma.nb.toNat = min (s.csma.nb.toNat + 1) 255 ∧
      t.csma.nbf.toNat = (if prio then s.csma.nbf.toNat else min (s.csma.nbf.toNat + 1) 255) ∧
      t.csma.cw.toNat =
        (if s.cfg.fairLimit.toNat < t.csma.nbf.toNat then
          (if s.cfg.csmaK ≠ 0#8 ∧ t.csma.nbf.toNat % s.cfg.csmaK.toNat = 0 then
            max (s.csma.cw.toNat - s.cfg.csmaA.toNat * 2 ^ s.cfg.minBE.toNat) (2 ^ s.cfg.minBE.toNat)
          else s.csma.cw.toNat)
        else min (2 * s.csma.cw.toNat) (2 ^ s.cfg.maxBE.toNat))

/-- `ACCOK` (R178), with no request active: the window shrinks by `A * minW`, floored at `minW`; nothing else changes
but the response, which is the new window. -/
def Obligations.AccokOperation : Prop :=
  ∀ s : State, s.mac.tx = .none →
    ∃ t, exec .accok s = .next t ∧
      t =
        { s with
          csma := { s.csma with cw := t.csma.cw }
          response := some (rspWord .ok (t.csma.cw.setWidth 24)) } ∧
      t.csma.cw.toNat =
        max (s.csma.cw.toNat - s.cfg.csmaA.toNat * 2 ^ s.cfg.minBE.toNat) (2 ^ s.cfg.minBE.toNat)

/-- `COMPENSATE` (R183, R184), with no request active: the marked increments are reversed once and the mark is cleared;
the result is the mark as it was; the window and everything else are kept. -/
def Obligations.CompensateOperation : Prop :=
  ∀ s : State, s.mac.tx = .none →
    ∃ t, exec .compensate s = .next t ∧
      t =
        { s with
          csma := { s.csma with nb := t.csma.nb, nbf := t.csma.nbf }
          mac := { s.mac with compPending := false, compNbf := false }
          response := some (rspWord .ok (BitVec.ofNat 24 s.mac.compPending.toNat)) } ∧
      t.csma.nb.toNat = s.csma.nb.toNat - s.mac.compPending.toNat ∧
      t.csma.nbf.toNat = s.csma.nbf.toNat - (s.mac.compPending && s.mac.compNbf).toNat

/-- Window invariant and monotonicity (R180): `minW <= CW <= maxW` holds after reset and after every step from a state
where it holds; and outside `RESET` and `SET` an operation decreases the window only on full success (`ACCOK`, or the
`POLL` of `SEND_OK` with nothing left to send) or in the fairness branch of a failed access. -/
def Obligations.WindowLaw : Prop :=
  windowInv State.reset ∧
    (∀ s t : State, windowInv s → step s = .next t → windowInv t) ∧
    (∀ (i : Instr) (s t : State), windowInv s → exec i s = .next t → t.csma.cw.toNat < s.csma.cw.toNat →
      (∃ clr, i = .reset clr) ∨ (∃ reg v, i = .set reg v) ∨ i = .accok ∨
        (i = .poll ∧ s.mac.tx = .sendOk ∧ s.txd.len.toNat ≤ t.sess.sentOffset.toNat) ∨
        (((∃ prio, i = .accfail prio) ∨
            (∃ st time, i = .txcfm st time ∧ s.mac.tx = .waitConfirm ∧
              (st = .busyChannelSense ∨ st = .busyOwnRx))) ∧
          s.cfg.fairLimit.toNat < t.csma.nbf.toNat ∧ s.cfg.csmaK ≠ 0#8 ∧
          t.csma.nbf.toNat % s.cfg.csmaK.toNat = 0))

/-! ## Segmentation Engine -/

/-- `NEXTSEG seg, off` builds a segment (R191, R194, R196), with no request active, no reserved addressing mode and none
of the three failures of R195: the lengths, the last-segment decision, the frame in `TXBUF[0 .. total-1]`, TXFR, `TX_LEN`,
`TX_FCS` and the result; every other byte and everything else are kept. It holds for every padding function `rsPad`, and
the operation is the function at `Config.rsPad` (R156 leaves it open; log entry 5). -/
def Obligations.NextsegBuilds : Prop :=
  ∀ (s : State) (seg : BitVec 6) (off : BitVec 16) (rsPad : SnapIn → Nat → Nat), s.mac.tx = .none →
    s.txd.modeReserved = false →
    ∀ u : State, u = { s with sess := { s.sess with segIndex := seg, sentOffset := off } } →
    ∀ ovh maxSeg segLen total : Nat, ovh = overhead u.segHeader → maxSeg = min 1023 (s.snap.maxPhy.toNat - ovh) →
    segLen = min maxSeg (s.txd.len.toNat - off.toNat) →
    total = ovh + segLen + rsPad s.snap.snapIn (ovh + segLen) →
    off.toNat ≤ s.txd.len.toNat → ovh < s.snap.maxPhy.toNat → total ≤ 2048 →
    exec (.nextseg seg off) s = .next (s.nextSegUnitWith Config.rsPad seg off) ∧
    ∃ b t, encodeFrame u.nextSegFrame total = some b ∧ b.length = total ∧
      s.nextSegUnitWith rsPad seg off = t ∧
      (rsPad = Config.rsPad → exec (.nextseg seg off) s = .next t) ∧
      t =
        { s with
          txbuf := t.txbuf
          txfr := FrameBank.ofFrame u.nextSegFrame
          sess :=
            { s.sess with
              segIndex := seg
              sentOffset := off
              segLen := t.sess.segLen
              maxSegPayload := t.sess.maxSegPayload
              txLen := t.sess.txLen
              txFcs := fcsOf b }
          mac := { s.mac with moreFrag := decide (segLen ≠ s.txd.len.toNat - off.toNat) }
          response :=
            some
              (rspWord .ok
                (BitVec.ofNat 24 (segLen + (if segLen = s.txd.len.toNat - off.toNat then 1024 else 0)))) } ∧
      t.sess.segLen.toNat = segLen ∧ t.sess.maxSegPayload.toNat = maxSeg ∧ t.sess.txLen.toNat = total ∧
      txbufHolds s t b

/-- The header of a built segment (R192, R193), field by field, absent fields at their canonical values. -/
def Obligations.SegmentHeader : Prop :=
  ∀ s : State, s.txd.modeReserved = false →
    s.nextSegFrame.segNum = s.sess.segIndex ∧ s.nextSegFrame.segLen.toNat = s.nextSegLen ∧
      s.nextSegFrame.lsf = decide (s.nextSegLen = s.txd.len.toNat - s.sess.sentOffset.toNat) ∧
      s.nextSegFrame.tmr = (s.nextSegFrame.lsf && s.txd.ctrl.getLsbD 3) ∧
      s.nextSegFrame.cap = s.txd.ctrl.getLsbD 5 ∧ s.nextSegFrame.ftype = 1#3 ∧
      s.nextSegFrame.sec = s.txd.ctrl.getLsbD 4 ∧ s.nextSegFrame.pending = false ∧
      s.nextSegFrame.ackReq = s.txd.ctrl.getLsbD 0 ∧ s.nextSegFrame.panComp = s.txd.ctrl.getLsbD 6 ∧
      addrModeBits s.nextSegFrame.dstMode = s.txd.ctrl.extractLsb' 8 2 ∧
      addrModeBits s.nextSegFrame.srcMode = s.txd.ctrl.extractLsb' 10 2 ∧
      s.nextSegFrame.version = s.cfg.macFlags.extractLsb' 1 2 ∧ s.nextSegFrame.seq = s.sess.reqSeq ∧
      s.nextSegFrame.dstPan = (if s.nextSegFrame.dstMode = .none then 0#16 else s.txd.dstPan) ∧
      s.nextSegFrame.dstAddr =
        (if s.nextSegFrame.dstMode = .none then 0#64
          else if s.nextSegFrame.dstMode = .short then 0#48 ++ s.txd.dstLo.extractLsb' 0 16
          else s.txd.dstHi ++ s.txd.dstLo) ∧
      s.nextSegFrame.srcPan =
        (if s.nextSegFrame.srcMode = .none then 0#16
          else if s.txd.ctrl.getLsbD 6 then s.nextSegFrame.dstPan else s.cfg.panId) ∧
      s.nextSegFrame.srcAddr =
        (if s.nextSegFrame.srcMode = .none then 0#64
          else if s.nextSegFrame.srcMode = .short then 0#48 ++ s.cfg.shortAddr
          else s.cfg.extAddrHi ++ s.cfg.extAddrLo) ∧
      s.nextSegFrame.secHdr =
        (if s.txd.ctrl.getLsbD 4 = true ∧ s.sess.segIndex = 0#6 then s.txd.secHi ++ s.txd.secLo else 0#48) ∧
      s.nextSegFrame.payload.length = s.nextSegLen ∧
      ∀ k, k < s.nextSegLen →
        byteAt s.nextSegFrame.payload k = Memory.read s.reqmem (s.sess.sentOffset.toNat + k)

/-- `NEXTSEG` refuses (R195, R196), with no request active: a reserved addressing mode, or a `SegFault` of any of the
three kinds, is `ERR_PARAM`, and nothing else changes, the session position included; for every padding function
`rsPad`, the operation being the function at `Config.rsPad` (log entry 5). -/
def Obligations.NextsegRefuses : Prop :=
  ∀ (s : State) (seg : BitVec 6) (off : BitVec 16) (rsPad : SnapIn → Nat → Nat), s.mac.tx = .none →
    ∀ u : State, u = { s with sess := { s.sess with segIndex := seg, sentOffset := off } } →
    (s.txd.modeReserved = true ∨ s.txd.len.toNat < off.toNat ∨ s.snap.maxPhy.toNat ≤ overhead u.segHeader ∨
      2048 < overhead u.segHeader + u.nextSegLen + rsPad s.snap.snapIn (overhead u.segHeader + u.nextSegLen)) →
    s.nextSegUnitWith rsPad seg off = { s with response := some (rspWord .errParam 0#24) } ∧
    (rsPad = Config.rsPad →
      exec (.nextseg seg off) s = .next { s with response := some (rspWord .errParam 0#24) })

/-- `SEGDONE` (R198), with no request active: `SENT_OFFSET` advances by `SEG_LEN` modulo 2^16, the result says whether
more remains, nothing else changes. -/
def Obligations.SegdoneOperation : Prop :=
  ∀ s : State, s.mac.tx = .none →
    ∃ t, exec .segdone s = .next t ∧
      t =
        { s with
          sess := { s.sess with sentOffset := t.sess.sentOffset }
          response :=
            some (rspWord .ok (if t.sess.sentOffset.toNat < s.txd.len.toNat then 1#24 else 0#24)) } ∧
      t.sess.sentOffset.toNat = (s.sess.sentOffset.toNat + s.sess.segLen.toNat) % 2 ^ 16

/-- Completeness of segmentation (R197), for every snapshot that leaves segment 0 room for payload (its overhead is the
largest of all segments) and every `rsPad` that keeps the frames which fit that snapshot inside `TXBUF`: the iteration
from segment 0 and offset 0 ends, the segment lengths sum to `TXD_LEN`, exactly the final segment has `lsf = 1`, and the
segment numbers count up from 0 in their 6 bits. -/
def Obligations.SegmentsComplete : Prop :=
  ∀ (s : State) (rsPad : SnapIn → Nat → Nat),
    s.sess.segIndex = 0#6 → s.sess.sentOffset = 0#16 → overhead s.segHeader < s.snap.maxPhy.toNat →
    (∀ n : Nat, n ≤ 1057 → n ≤ s.snap.maxPhy.toNat → n + rsPad s.snap.snapIn n ≤ 2048) →
    ∃ l, segmentsFrom rsPad (s.txd.len.toNat + 1) s = some l ∧ 0 < l.length ∧
      (l.map (fun t => t.sess.segLen.toNat)).sum = s.txd.len.toNat ∧
      (∀ k (h : k < l.length),
        l[k].mac.moreFrag = decide (k + 1 ≠ l.length) ∧ l[k].sess.segIndex = BitVec.ofNat 6 k ∧
          l[k].txfr.sc.getLsbD 16 = decide (k + 1 = l.length) ∧ l[k].txfr.sc.extractLsb' 10 6 = BitVec.ofNat 6 k)

/-! ## Host commands -/

/-- Every unit operation is refused with `ERR_BUSY` and no effect while a request is active (R100, R283). -/
def Obligations.UnitOperationsBusy : Prop :=
  ∀ s : State, s.mac.tx ≠ .none →
    ∀ i : Instr,
      ((∃ len, i = .crc16 len) ∨ i = .hdrlen ∨ (∃ len, i = .decode len) ∨ (∃ len off, i = .encode len off) ∨
        (∃ load, i = .phycalc load) ∨ (∃ p b, i = .backoff p b) ∨ (∃ p, i = .accfail p) ∨ i = .accok ∨
        i = .compensate ∨ (∃ seg off, i = .nextseg seg off) ∨ i = .segdone ∨ (∃ r, i = .fallback r)) →
      exec i s = .next { s with response := some (rspWord .errBusy 0#24) }

/-- Reset. After power-on (R43) the registers have the reset values of the tables of R24 to R27, `CW = 8`, every other
register reads 0, and both frame buffers read 0. `RESET clr` (R201), in every state: the configuration bank is restored
or kept, every other register reads 0 but `CW = 2^MIN_BE`, both frame buffers read 0, `REQMEM` keeps its bytes, nothing
is emitted; with `clr = 1` every register reads as after power-on (R202). -/
def Obligations.ResetOperation : Prop :=
  (∀ r : CfgReg, State.reset.cfg.get r =
    match r with
    | .panId | .shortAddr => 0xFFFF#32
    | .minBE => 3#32
    | .maxBE => 8#32
    | .hpWindow => 7#32
    | .minCwAttempts => 10#32
    | .fairLimit => 25#32
    | .csmaA => 8#32
    | .csmaK => 5#32
    | .maxCsmaBackoffs => 50#32
    | .maxFrameRetries => 5#32
    | .robustBelow => 2#32
    | .toneMask0 | .toneMask1 | .toneMask2 => 0xFFFFFFFF#32
    | _ => 0#32) ∧
  (∀ r : Reg, (∀ c, r ≠ .cfg c) → State.reset.readReg r = (if r = .status .cw then 8#32 else 0#32)) ∧
  (∀ a, Memory.read State.reset.txbuf a = 0#8 ∧ Memory.read State.reset.rxbuf a = 0#8) ∧
  (∀ (s : State) (clr : Bool),
    ∃ t, exec (.reset clr) s = .next t ∧ t.response = some (rspWord .ok 0#24) ∧ t.effects = s.effects ∧
      t.inputs = s.inputs ∧
      (clr = false → t.cfg = s.cfg) ∧ (clr = true → ∀ r : Reg, t.readReg r = State.reset.readReg r) ∧
      t.csma.cw.toNat = 2 ^ t.cfg.minBE.toNat ∧
      (∀ r : Reg, (∀ c, r ≠ .cfg c) → r ≠ .status .cw → t.readReg r = 0#32) ∧
      (∀ a, Memory.read t.txbuf a = 0#8) ∧ (∀ a, Memory.read t.rxbuf a = 0#8) ∧
      (∀ a, Memory.read t.reqmem a = Memory.read s.reqmem a))

/-- `GET reg` (R67, R203), in every state: an implemented register is confirmed `VALID` with what it reads, any other
number `INVALID` with 0; no register or memory changes. Every register of R24 to R40 stands at its number and reads its field of
the state; `STATE`, number 0x40, reads its tags and flags at their places, `REQ_ACTIVE` 1 exactly while a request is active
(R35), the tags and codes being numbered as R34, R36, R37 and R281 say. -/
def Obligations.GetOperation : Prop :=
  (∀ (s : State) (r : Reg),
    exec (.get (regNum r)) s =
      .next
        { s with
          effects := s.effects ++ [.getConfirm (regNum r) true (s.readReg r)]
          response := some (rspWord .ok 0#24) }) ∧
  (∀ (s : State) (n : BitVec 8),
    ¬ (n.toNat ≤ 0x19 ∨ (0x40 ≤ n.toNat ∧ n.toNat ≤ 0x53 ∧ n.toNat ≠ 0x4D) ∨
        (0x58 ≤ n.toNat ∧ n.toNat ≤ 0x5A) ∨ (0x60 ≤ n.toNat ∧ n.toNat ≤ 0x69) ∨
        (0x80 ≤ n.toNat ∧ n.toNat ≤ 0x88) ∨ (0xA0 ≤ n.toNat ∧ n.toNat ≤ 0xAA) ∨
        (0xC0 ≤ n.toNat ∧ n.toNat ≤ 0xCE)) →
    exec (.get n) s =
      .next
        { s with
          effects := s.effects ++ [.getConfirm n false 0#32]
          response := some (rspWord .ok 0#24) }) ∧
  (∀ n : BitVec 8,
    (n.toNat ≤ 0x19 ∨ (0x40 ≤ n.toNat ∧ n.toNat ≤ 0x53 ∧ n.toNat ≠ 0x4D) ∨
        (0x58 ≤ n.toNat ∧ n.toNat ≤ 0x5A) ∨ (0x60 ≤ n.toNat ∧ n.toNat ≤ 0x69) ∨
        (0x80 ≤ n.toNat ∧ n.toNat ≤ 0x88) ∨ (0xA0 ≤ n.toNat ∧ n.toNat ≤ 0xAA) ∨
        (0xC0 ≤ n.toNat ∧ n.toNat ≤ 0xCE)) →
    ∃ r, regNum r = n) ∧
  (∀ (s : State) (r : Reg) (n : BitVec 8) (v : Word), (r, n, v) ∈ registerMap s →
    regNum r = n ∧ s.readReg r = v ∧
      exec (.get n) s =
        .next
          { s with
            effects := s.effects ++ [.getConfirm n true v]
            response := some (rspWord .ok 0#24) }) ∧
  ([Occ.idle, .eifs, .cifs, .rcifs, .cp, .rifs].map occBits = [0#3, 1#3, 2#3, 3#3, 4#3, 5#3] ∧
    [TxSub.none, .start, .csmaCa, .waitSend, .waitConfirm, .failCsmaCa, .waitAck, .sendOk, .littleFail, .bigFail].map
      txBits = [0#4, 1#4, 2#4, 3#4, 4#4, 5#4, 6#4, 7#4, 8#4, 9#4] ∧
    [RejectCode.none, .short, .badCrc, .badType, .pending, .badAddrMode, .length, .srcUndefined].map rejectBits =
      [0#4, 1#4, 2#4, 3#4, 4#4, 5#4, 6#4, 7#4] ∧
    [ModType.robust, .bpsk, .qpsk, .psk8, .qam16].map modBits = [0#3, 1#3, 2#3, 3#3, 4#3]) ∧
  (∀ s : State,
    regNum (.status .state) = 0x40#8 ∧
    (s.readReg (.status .state)).toNat =
      (occBits s.mac.occ).toNat + 16 * (txBits s.mac.tx).toNat + (if s.mac.tx = .none then 0 else 256) +
        512 * s.mac.moreFrag.toNat + 1024 * s.mac.compPending.toNat + 2048 * s.mac.compNbf.toNat +
        4096 * s.mac.immediate.toNat)

/-- `SET reg, value` of an `RW` register with no request active and a legal value (R22, R25, R204): the register then
reads the value cut to its field, every other register reads as before but for `CW` and `MIN_CW_STREAK` when `MIN_BE` or
`MAX_BE` is written, no effect, no memory change. -/
def Obligations.SetOperation : Prop :=
  ∀ (s : State) (r : Reg) (v : Word), s.mac.tx = .none → regWritable r = true →
    (r = .cfg .minBE → v.toNat % 16 ≤ s.cfg.maxBE.toNat) → (r = .cfg .maxBE → s.cfg.minBE.toNat ≤ v.toNat % 16) →
    ∃ t, exec (.set (regNum r) v) s = .next t ∧
      t =
        { s with
          cfg := t.cfg
          csma := { s.csma with cw := t.csma.cw, minCwStreak := t.csma.minCwStreak }
          txd := t.txd
          txfr := t.txfr
          response := some (rspWord .ok 0#24) } ∧
      t.readReg r = v &&& writableBits r ∧
      (∀ q : Reg, q ≠ r →
        (r = .cfg .minBE ∨ r = .cfg .maxBE → q ≠ .status .cw ∧ q ≠ .status .minCwStreak) →
        t.readReg q = s.readReg q) ∧
      (r = .cfg .minBE ∨ r = .cfg .maxBE →
        t.csma.cw.toNat = 2 ^ t.cfg.minBE.toNat ∧ t.csma.minCwStreak = 0#8)

/-- `SET` refuses in the order of R204 and R283: an unimplemented register, a read-only one, a request active, a value
that would leave `MIN_BE > MAX_BE`; nothing but the response changes. The registers `RW` by R24 to R40 are exactly those
numbered 0x00 to 0x19, 0x80 to 0x88 and 0xA0 to 0xAA, and `ERR_RO` answers exactly the other implemented numbers, 0x40 to
0x53 but 0x4D, 0x58 to 0x5A, 0x60 to 0x69 and 0xC0 to 0xCE. -/
def Obligations.SetRefuses : Prop :=
  (∀ r : Reg, regWritable r = true ↔
    (regNum r).toNat ≤ 0x19 ∨ (0x80 ≤ (regNum r).toNat ∧ (regNum r).toNat ≤ 0x88) ∨
      (0xA0 ≤ (regNum r).toNat ∧ (regNum r).toNat ≤ 0xAA)) ∧
  (∀ (s : State) (v : Word) (n : BitVec 8) (t : State), exec (.set n v) s = .next t →
    (t.response = some (rspWord .errRo 0#24) ↔
      (0x40 ≤ n.toNat ∧ n.toNat ≤ 0x53 ∧ n.toNat ≠ 0x4D) ∨ (0x58 ≤ n.toNat ∧ n.toNat ≤ 0x5A) ∨
        (0x60 ≤ n.toNat ∧ n.toNat ≤ 0x69) ∨ (0xC0 ≤ n.toNat ∧ n.toNat ≤ 0xCE))) ∧
  ∀ (s : State) (v : Word),
    (∀ n : BitVec 8, (∀ r, regNum r ≠ n) →
      exec (.set n v) s = .next { s with response := some (rspWord .errReg 0#24) }) ∧
    (∀ r : Reg, regWritable r = false →
      exec (.set (regNum r) v) s = .next { s with response := some (rspWord .errRo 0#24) }) ∧
    (∀ r : Reg, regWritable r = true → s.mac.tx ≠ .none →
      exec (.set (regNum r) v) s = .next { s with response := some (rspWord .errBusy 0#24) }) ∧
    (s.mac.tx = .none → s.cfg.maxBE.toNat < v.toNat % 16 →
      exec (.set 0x04#8 v) s = .next { s with response := some (rspWord .errParam 0#24) }) ∧
    (s.mac.tx = .none → v.toNat % 16 < s.cfg.minBE.toNat →
      exec (.set 0x05#8 v) s = .next { s with response := some (rspWord .errParam 0#24) })

/-- `TXREQ` (R205): accepted exactly when no request is active and the descriptor is legal, with the session, counters
and flags as the rule sets them and nothing else touched; else `REJECTED` or `ERR_PARAM` without effect. That `MORE_FRAG`
is cleared is the model's choice of R205 over R38 (log entry 22), that `MAX_SEG_PAYLOAD` is kept its choice of R205 over R30
(log entry 24). -/
def Obligations.TxreqOperation : Prop :=
  ∀ s : State,
    (s.mac.tx ≠ .none → exec .txreq s = .next { s with response := some (rspWord .rejected 0#24) }) ∧
    (s.mac.tx = .none →
      (s.txd.ctrl.extractLsb' 8 2 = 1#2 ∨ s.txd.ctrl.extractLsb' 10 2 = 1#2 ∨
          4 < (s.txd.ctrl.extractLsb' 12 3).toNat →
        exec .txreq s = .next { s with response := some (rspWord .errParam 0#24) }) ∧
      (s.txd.ctrl.extractLsb' 8 2 ≠ 1#2 → s.txd.ctrl.extractLsb' 10 2 ≠ 1#2 →
        (s.txd.ctrl.extractLsb' 12 3).toNat ≤ 4 →
        exec .txreq s =
          .next
            { s with
              sess :=
                { s.sess with
                  reqSeq := s.sess.dsn
                  dsn := BitVec.ofNat 8 (s.sess.dsn.toNat + 1)
                  segIndex := 0#6
                  sentOffset := 0#16
                  segLen := 0#10
                  retriesLeft := 0#8 }
              csma := { s.csma with nb := 0#8, nbf := 0#8 }
              mac :=
                { s.mac with
                  tx := .start
                  moreFrag := false
                  compPending := false
                  compNbf := false
                  immediate := false }
              response := some (rspWord .ok (BitVec.ofNat 24 s.sess.dsn.toNat)) }))

/-! ## MAC State Machine: POLL -/

/-- The timed transition of the occupancy machine (R12, R27, R221): at most one, taken exactly when the elapsed time
modulo 2^32 has reached the state's duration, stamped with `Now`. -/
def Obligations.OccupancyTick : Prop :=
  ∀ (s : State) (e : Nat), e = (s.now.toNat + 2 ^ 32 - s.mac.occEntered.toNat) % 2 ^ 32 →
    (s.mac.occ = .idle → s.occTick = s) ∧
    (∀ (o u : Occ) (d : Nat), s.mac.occ = o →
      (o = .eifs ∧ d = s.cfg.eifsTime.toNat ∧ u = .idle ∨ o = .cifs ∧ d = s.cfg.cifsTime.toNat ∧ u = .cp ∨
        o = .rcifs ∧ d = s.cfg.rcifsTime.toNat ∧ u = .cp ∨ o = .cp ∧ d = s.cfg.cpTime.toNat ∧ u = .idle ∨
        o = .rifs ∧ u = .eifs ∧
          d = (s.cfg.rifsTime.toNat + s.cfg.ackTime.toNat + s.cfg.cifsTime.toNat) % 2 ^ 32) →
      (e < d → s.occTick = s) ∧
      (d ≤ e → s.occTick = { s with mac := { s.mac with occ := u, occEntered := s.now } }))

/-- A `POLL` with no request active or waiting for the confirm (R220, R224, R240) makes the occupancy transition alone:
it answers the new `STATE`, emits nothing and changes nothing else. -/
def Obligations.PollWithoutTransmit : Prop :=
  ∀ s : State, s.mac.tx = .none ∨ s.mac.tx = .waitConfirm →
    ∃ t, exec .poll s = .next t ∧
      t =
        { s with
          mac := { s.mac with occ := s.occTick.mac.occ, occEntered := s.occTick.mac.occEntered }
          response := some (rspWord .ok (BitVec.ofNat 24 (t.readReg (.status .state)).toNat)) }

/-- `POLL` in `START` (R157, R230): the snapshot is loaded and announced by one `PHY_SET_PARAMS`, the retry budget armed,
segment 0 built; on a `SegFault` the request is concluded `DENIED`. -/
def Obligations.PollStart : Prop :=
  ∀ (s : State) (m : ModType), s.mac.tx = .start → modBits m = s.txd.ctrl.extractLsb' 12 3 →
    ∀ (i : SnapIn) (v : State),
      i =
        { type := m
          scheme := s.txd.ctrl.getLsbD 15
          twoRs := s.txd.ctrl.getLsbD 7
          toneMap := s.txd.toneMap
          toneMask := s.cfg.toneMask2 ++ s.cfg.toneMask1 ++ s.cfg.toneMask0
          gain := s.txd.gain } →
      v =
        { s.occTick with
          snap :=
            { modType := m
              scheme := i.scheme
              twoRs := i.twoRs
              toneMap := i.toneMap
              toneMask0 := s.cfg.toneMask0
              toneMask1 := s.cfg.toneMask1
              toneMask2 := s.cfg.toneMask2
              gain := i.gain
              bpc := bitsPerCarrier m
              rep := repetition m
              parity := parityBytes m
              maxPhy := BitVec.ofNat 16 (min (Config.maxPhyPayload i) 65535) }
          sess := { s.sess with retriesLeft := s.cfg.maxFrameRetries }
          effects :=
            s.effects ++
              [.phySetParams (BitVec.ofBool i.twoRs ++ BitVec.ofBool i.scheme ++ modBits m) i.toneMap i.toneMask
                i.gain] } →
      exec .poll s =
        .next
          (match v.nextSeg with
            | some w => ({ w with mac := { w.mac with tx := .csmaCa } } : State)
            | none =>
              ({ v with
                effects := v.effects ++ [Effect.txConfirm .denied m i.scheme]
                mac := { v.mac with tx := .none, compPending := false, compNbf := false, immediate := false } } :
                State)).pollAnswer

/-- `POLL` in `CSMA_CA` (R226, R231): the engine draws a backoff of the request's priority, broadcast when the
destination is short address 0xFFFF; then `WAIT_SEND`, to be sent with contention. -/
def Obligations.PollCsmaCa : Prop :=
  ∀ (s : State) (bcast : Bool), s.mac.tx = .csmaCa →
    (bcast = true ↔ s.txd.ctrl.extractLsb' 8 2 = 2#2 ∧ s.txd.dstLo.extractLsb' 0 16 = 0xFFFF#16) →
    exec .poll s =
      .next
        ({ s with
          csma := s.csma.runBackoff s.cfg (s.txd.ctrl.getLsbD 1) bcast s.rnd
          mac :=
            { s.mac with
              occ := s.occTick.mac.occ
              occEntered := s.occTick.mac.occEntered
              immediate := false
              tx := .waitSend } } : State).pollAnswer

/-- `POLL` in `WAIT_SEND` (R232, R233, R234, R235, R236): when and how an on-air frame inside `TXBUF` is scheduled by the
one `PHY_TX_REQ`; and that otherwise, whatever `TX_LEN` is, nothing but the occupancy transition happens. -/
def Obligations.PollWaitSend : Prop :=
  ∀ (s u : State) (e : Nat), s.mac.tx = .waitSend → u = s.occTick →
    e = (s.now.toNat + 2 ^ 32 - u.mac.occEntered.toNat) % 2 ^ 32 →
    ∀ send : Word → Bool → State,
      (∀ time sense, send time sense =
        { u with
          effects :=
            s.effects ++
              [.phyTxReq s.sess.txLen (s.txd.ctrl.getLsbD 0) sense s.mac.moreFrag time
                (Memory.readRun s.txbuf 0 s.sess.txLen.toNat)]
          mac := { u.mac with immediate := false, tx := .waitConfirm } }) →
    (s.sess.txLen.toNat ≤ 2048 →
      (s.mac.immediate = true → exec .poll s = .next (send s.now false).pollAnswer) ∧
      (s.mac.immediate = false → u.mac.occ = .idle →
        exec .poll s = .next (send (s.now + s.csma.periodWait + s.csma.backoff) true).pollAnswer) ∧
      (s.mac.immediate = false → u.mac.occ = .cp → s.cfg.leadTime.toNat + e ≤ s.cfg.cpTime.toNat →
        (((u.mac.occEntered + s.csma.periodWait + s.csma.backoff) - s.now).getLsbD 31 = true →
          exec .poll s = .next (send s.now true).pollAnswer) ∧
        (((u.mac.occEntered + s.csma.periodWait + s.csma.backoff) - s.now).getLsbD 31 = false →
          exec .poll s =
            .next (send (u.mac.occEntered + s.csma.periodWait + s.csma.backoff) true).pollAnswer))) ∧
    (s.mac.immediate = false → u.mac.occ ≠ .idle →
      (u.mac.occ = .cp → s.cfg.cpTime.toNat < s.cfg.leadTime.toNat + e) →
      exec .poll s = .next u.pollAnswer)

/-- `POLL` in `FAIL_CSMA_CA`, `WAIT_ACK` and `LITTLE_FAIL` (R241, R242, R253): the abort at the attempt limit, the new
contention or the kept backoff, the acknowledgement timeout, and the short retry. Beside the tags, the occupancy
transition and what is named, nothing changes. -/
def Obligations.PollRetryStates : Prop :=
  ∀ (s u : State) (e : Nat), u = s.occTick →
    e = (s.now.toNat + 2 ^ 32 - s.mac.txEntered.toNat) % 2 ^ 32 →
    (s.mac.tx = .failCsmaCa →
      (s.cfg.maxCsmaBackoffs.toNat ≤ s.csma.nb.toNat →
        exec .poll s = .next (u.conclude .channelAccessFailure).pollAnswer) ∧
      (s.csma.nb.toNat < s.cfg.maxCsmaBackoffs.toNat →
        exec .poll s =
          .next
            ({ u with
              mac := { u.mac with tx := if s.txd.ctrl.getLsbD 0 then .csmaCa else .waitSend } } :
              State).pollAnswer)) ∧
    (s.mac.tx = .waitAck →
      exec .poll s =
        .next
          ({ u with
            mac :=
              { u.mac with
                tx :=
                  if (s.cfg.rifsTime.toNat + s.cfg.ackTime.toNat + s.cfg.cifsTime.toNat) % 2 ^ 32 ≤ e then
                    .bigFail
                  else .waitAck } } : State).pollAnswer) ∧
    (s.mac.tx = .littleFail →
      (s.sess.retriesLeft = 0#8 → exec .poll s = .next (u.conclude .noAck).pollAnswer) ∧
      (s.sess.retriesLeft ≠ 0#8 →
        exec .poll s =
          .next
            ({ u with
              sess := { s.sess with retriesLeft := BitVec.ofNat 8 (s.sess.retriesLeft.toNat - 1) }
              mac := { u.mac with immediate := false, tx := .waitSend } } : State).pollAnswer))

/-- `POLL` in `SEND_OK` (R178, R198, R199, R252): the offset advances; while more remains the next segment is built and
sent at once, unless the segment number is used up or the segment cannot be built; at the end the window shrinks once
and the request concludes `SUCCESS`. -/
def Obligations.PollSendOk : Prop :=
  ∀ (s d : State), s.mac.tx = .sendOk →
    d =
      { s.occTick with
        sess := { s.sess with sentOffset := s.sess.sentOffset + BitVec.ofNat 16 s.sess.segLen.toNat } } →
    (s.txd.len.toNat ≤ d.sess.sentOffset.toNat →
      exec .poll s =
        .next (({ d with csma := { s.csma with cw := shrink s.cfg s.csma.cw } } : State).conclude .success).pollAnswer) ∧
    (d.sess.sentOffset.toNat < s.txd.len.toNat →
      (s.sess.segIndex = 63#6 → exec .poll s = .next (d.conclude .denied).pollAnswer) ∧
      (s.sess.segIndex ≠ 63#6 →
        ∀ v : State,
          v =
            { d with
              sess :=
                { d.sess with
                  segIndex := BitVec.ofNat 6 (s.sess.segIndex.toNat + 1)
                  retriesLeft := s.cfg.maxFrameRetries } } →
          exec .poll s =
            .next
              (match v.nextSeg with
                | some w => ({ w with mac := { w.mac with immediate := true, tx := .waitSend } } : State)
                | none => v.conclude .denied).pollAnswer))

/-- `POLL` in `BIG_FAIL` (R254, R256): at an empty budget `NO_ACK`; else one retry is spent, the modulation falls unless
forced (a `PHY_SET_PARAMS` exactly when it changes), the segment is rebuilt and contends again. -/
def Obligations.PollBigFail : Prop :=
  ∀ s : State, s.mac.tx = .bigFail →
    (s.sess.retriesLeft = 0#8 → exec .poll s = .next (s.occTick.conclude .noAck).pollAnswer) ∧
    (s.sess.retriesLeft ≠ 0#8 →
      ∀ (r : BitVec 8) (m : ModType) (v : State), r = BitVec.ofNat 8 (s.sess.retriesLeft.toNat - 1) →
        (modBits m).toNat =
          (if s.txd.ctrl.getLsbD 2 then (modBits s.snap.modType).toNat
            else if r.toNat < s.cfg.robustBelow.toNat then 0 else (modBits s.snap.modType).toNat - 1) →
        v =
          { s.occTick with
            sess := { s.sess with retriesLeft := r }
            snap := s.snap.fallTo m
            effects :=
              s.effects ++
                (if m = s.snap.modType then []
                  else
                    [.phySetParams (BitVec.ofBool s.snap.twoRs ++ BitVec.ofBool s.snap.scheme ++ modBits m)
                      s.snap.toneMap (s.snap.toneMask2 ++ s.snap.toneMask1 ++ s.snap.toneMask0) s.snap.gain]) } →
        exec .poll s =
          .next
            (match v.nextSeg with
              | some w => ({ w with mac := { w.mac with immediate := false, tx := .csmaCa } } : State)
              | none => v.conclude .denied).pollAnswer)

/-- `conclude` (R225, R290): one `TX_CONFIRM` with the outcome and the final modulation, `STATE.TX = NONE`, three flags
cleared; every register but `STATE`, every byte of memory and the occupancy tag are kept. -/
def Obligations.ConcludeOperation : Prop :=
  ∀ (s : State) (o : TxOutcome),
    (s.conclude o).effects = s.effects ++ [.txConfirm o s.snap.modType s.snap.scheme] ∧
      (s.conclude o).mac.tx = .none ∧
      ((s.conclude o).readReg (.status .state)).toNat =
        (occBits s.mac.occ).toNat + 512 * s.mac.moreFrag.toNat ∧
      (∀ r : Reg, r ≠ .status .state → (s.conclude o).readReg r = s.readReg r) ∧ sameBytes s (s.conclude o)

/-- `POLL` completes in every state but two kinds that no run reaches (R220): its answer is the new `STATE`, and it keeps
the configuration, the descriptor, the counters, the receive record, `TX_TIME`, `DSN`, `REQ_SEQ`, `RXBUF` and `REQMEM`.
The two it stops in by name are the model's choice (log entries 9 and 10): `START` with a `MOD_TYPE` that `TXREQ` refuses,
and `WAIT_SEND` that sends in this step (at once, in `IDLE`, or in `CP` with the lead time left: R232) an on-air frame
longer than `TXBUF`. A `WAIT_SEND` that does not send completes, whatever `TX_LEN` is. -/
def Obligations.PollCompletes : Prop :=
  ∀ (s : State) (e : Nat) (sends : Prop),
    e = (s.now.toNat + 2 ^ 32 - s.occTick.mac.occEntered.toNat) % 2 ^ 32 →
    (sends ↔
      s.mac.immediate = true ∨ s.occTick.mac.occ = .idle ∨
        s.occTick.mac.occ = .cp ∧ s.cfg.leadTime.toNat + e ≤ s.cfg.cpTime.toNat) →
    ((s.mac.tx = .start → (s.txd.ctrl.extractLsb' 12 3).toNat ≤ 4) →
      (s.mac.tx = .waitSend → sends → s.sess.txLen.toNat ≤ 2048) →
      ∃ t, exec .poll s = .next t ∧
        t.response = some (rspWord .ok (BitVec.ofNat 24 (t.readReg (.status .state)).toNat)) ∧
        t =
          { s with
            mac := t.mac
            csma := t.csma
            sess := { t.sess with txTime := s.sess.txTime, dsn := s.sess.dsn, reqSeq := s.sess.reqSeq }
            snap := t.snap
            txfr := t.txfr
            txbuf := t.txbuf
            response := t.response
            effects := t.effects }) ∧
    (s.mac.tx = .start → 4 < (s.txd.ctrl.extractLsb' 12 3).toNat → exec .poll s = .fault .reservedModType) ∧
    (s.mac.tx = .waitSend → 2048 < s.sess.txLen.toNat → sends → exec .poll s = .fault .txLenBeyondTxbuf)

/-- What one `POLL` can emit (R220): at most one `PHY_TX_REQ`, one `PHY_SET_PARAMS`, one `TX_CONFIRM`, nothing else, and
the last two together only out of `START` or `BIG_FAIL`; it only adds to what was emitted. -/
def Obligations.PollEmissions : Prop :=
  ∀ s t : State, exec .poll s = .next t →
    t.effects = s.effects ++ newEffects s t ∧
      countBy Effect.isTxReq (newEffects s t) ≤ 1 ∧ countBy Effect.isSetParams (newEffects s t) ≤ 1 ∧
      countBy Effect.isTxConfirm (newEffects s t) ≤ 1 ∧
      (newEffects s t).length =
        countBy Effect.isTxReq (newEffects s t) + countBy Effect.isSetParams (newEffects s t) +
          countBy Effect.isTxConfirm (newEffects s t) ∧
      (1 < (newEffects s t).length → s.mac.tx = .start ∨ s.mac.tx = .bigFail)

/-! ## MAC State Machine: PHY events -/

/-- `TXCFM SUCCESS` in `WAIT_CONFIRM` (R244, R245): `TX_TIME` is latched, the compensation mark cleared, and the request
waits for the acknowledgement in `RIFS` or goes to `SEND_OK` in `CIFS`, stamped with `Now`. -/
def Obligations.TxcfmSuccess : Prop :=
  ∀ (s : State) (time : Word), s.mac.tx = .waitConfirm →
    (s.txd.ctrl.getLsbD 0 = true →
      exec (.txcfm .success time) s =
        .next
          { s with
            sess := { s.sess with txTime := time }
            mac :=
              { s.mac with
                tx := .waitAck
                txEntered := s.now
                occ := .rifs
                occEntered := s.now
                compPending := false
                compNbf := false }
            response := some (rspWord .ok 0#24) }) ∧
    (s.txd.ctrl.getLsbD 0 = false →
      exec (.txcfm .success time) s =
        .next
          { s with
            sess := { s.sess with txTime := time }
            mac :=
              { s.mac with
                tx := .sendOk
                occ := .cifs
                occEntered := s.now
                compPending := false
                compNbf := false }
            response := some (rspWord .ok 0#24) })

/-- A busy `TXCFM` in `WAIT_CONFIRM` (R246): the attempt is scored as a failed access of the request's priority and
marked for compensation; the occupancy state is kept. -/
def Obligations.TxcfmBusy : Prop :=
  ∀ (s : State) (st : PhyStatus) (time : Word), s.mac.tx = .waitConfirm → windowInv s →
    st = .busyChannelSense ∨ st = .busyOwnRx →
    ∃ t, exec (.txcfm st time) s = .next t ∧
      t =
        { s with
          csma := { s.csma with nb := t.csma.nb, nbf := t.csma.nbf, cw := t.csma.cw }
          mac :=
            { s.mac with
              tx := .failCsmaCa
              compPending := true
              compNbf := !(s.txd.ctrl.getLsbD 1) }
          response := some (rspWord .ok 0#24) } ∧
      t.csma.nb.toNat = min (s.csma.nb.toNat + 1) 255 ∧
      t.csma.nbf.toNat = (if s.txd.ctrl.getLsbD 1 then s.csma.nbf.toNat else min (s.csma.nbf.toNat + 1) 255) ∧
      (t.csma.nbf.toNat ≤ s.cfg.fairLimit.toNat →
        t.csma.cw.toNat = min (2 * s.csma.cw.toNat) (2 ^ s.cfg.maxBE.toNat)) ∧
      (s.cfg.fairLimit.toNat < t.csma.nbf.toNat →
        t.csma.cw.toNat =
          (if s.cfg.csmaK ≠ 0#8 ∧ t.csma.nbf.toNat % s.cfg.csmaK.toNat = 0 then
            max (s.csma.cw.toNat - s.cfg.csmaA.toNat * 2 ^ s.cfg.minBE.toNat) (2 ^ s.cfg.minBE.toNat)
          else s.csma.cw.toNat))

/-- A fatal `TXCFM` in `WAIT_CONFIRM` (R247, R248): the request is concluded at once and `EIFS` entered; and a `TXCFM`
in any other sub-state is stray (R249): `EIFS` and nothing else. -/
def Obligations.TxcfmFatalOrStray : Prop :=
  ∀ (s : State) (time : Word),
    (s.mac.tx = .waitConfirm →
      ∀ (st : PhyStatus) (o : TxOutcome),
        (st = .busyOwnTx ∧ o = .transactionOverflow ∨ (∃ code, st = .unknown code) ∧ o = .denied) →
        exec (.txcfm st time) s =
          .next
            { s with
              effects := s.effects ++ [.txConfirm o s.snap.modType s.snap.scheme]
              mac :=
                { s.mac with
                  tx := .none
                  compPending := false
                  compNbf := false
                  immediate := false
                  occ := .eifs
                  occEntered := s.now }
              response := some (rspWord .ok 0#24) }) ∧
    (s.mac.tx ≠ .waitConfirm →
      ∀ st : PhyStatus,
        exec (.txcfm st time) s =
          .next
            { s with
              mac := { s.mac with occ := .eifs, occEntered := s.now }
              response := some (rspWord .ok 0#24) })

/-- `RXIND` of a frame the codec rejects, and of a length above 2048 (R131, R260): one counter, `LAST_REJECT`, `EIFS` and
the code as the result; or `ERR_PARAM` with no change. Nothing is emitted, RXFR and the request are untouched. -/
def Obligations.RxindRejected : Prop :=
  ∀ (s : State) (len : BitVec 12) (ack : Bool) (time : Word),
    (2048 < len.toNat → exec (.rxind len ack time) s = .next { s with response := some (rspWord .errParam 0#24) }) ∧
    (len.toNat ≤ 2048 → ∀ code, decodeFrame (Memory.readRun s.rxbuf 0 len.toNat) = .reject code →
      ∃ t, exec (.rxind len ack time) s = .next t ∧
        t =
          { s with
            cnt := t.cnt
            mac := { s.mac with occ := .eifs, occEntered := s.now }
            response := some (rspWord .ok ((rejectBits code).setWidth 24)) } ∧
        t.cnt.lastReject = code ∧
        (code = .badCrc → t.cnt.badCrc = s.cnt.badCrc + 1#32 ∧ t.cnt.malformed = s.cnt.malformed) ∧
        (code ≠ .badCrc → t.cnt.badCrc = s.cnt.badCrc ∧ t.cnt.malformed = s.cnt.malformed + 1#32))

/-- `RXIND` of an accepted frame (R260, R261, R262, R263, R264, R265): RXFR, the compensation, the interrupted schedule,
delivery through the address filter, the acknowledgement request, and the occupancy state. -/
def Obligations.RxindAccepted : Prop :=
  ∀ (s : State) (len : BitVec 12) (ack : Bool) (time : Word) (b : List Byte) (f : Frame) (pad : Nat)
    (pass unicast : Bool),
    len.toNat ≤ 2048 → b = Memory.readRun s.rxbuf 0 len.toNat → decodeFrame b = .ok f pad →
    (pass = true ↔
      f.dstMode = .none ∨
        ((f.dstPan = s.cfg.panId ∨ f.dstPan = 0xFFFF#16) ∧
          (f.dstMode = .short ∧
              (f.dstAddr.extractLsb' 0 16 = s.cfg.shortAddr ∨ f.dstAddr.extractLsb' 0 16 = 0xFFFF#16) ∨
            f.dstMode = .extended ∧ f.dstAddr = s.cfg.extAddrHi ++ s.cfg.extAddrLo))) →
    (unicast = true ↔
      f.dstMode = .short ∧ f.dstAddr.extractLsb' 0 16 = s.cfg.shortAddr ∧ s.cfg.shortAddr ≠ 0xFFFF#16 ∨
        f.dstMode = .extended ∧ f.dstAddr = s.cfg.extAddrHi ++ s.cfg.extAddrLo) →
    ∃ t, exec (.rxind len ack time) s = .next t ∧
      t =
        { s with
          rxfr := RxBank.ofDecode f pad b
          csma := { s.csma with nb := t.csma.nb, nbf := t.csma.nbf }
          mac :=
            { s.mac with
              tx := if s.mac.tx = .waitConfirm then .waitSend else s.mac.tx
              occ := if ack then .rifs else .cifs
              occEntered := s.now
              compPending := false
              compNbf := false }
          effects :=
            s.effects ++ (if pass then [.dataInd (RxBank.ofDecode f pad b) f.payload time] else []) ++
              (if pass && ack && unicast then
                [.phyAckReq .ack (!f.lsf) (fcsOf b) (s.now + s.cfg.rifsTime)] else [])
          response := some (rspWord .ok 0#24) } ∧
      t.csma.nb.toNat = s.csma.nb.toNat - s.mac.compPending.toNat ∧
      t.csma.nbf.toNat = s.csma.nbf.toNat - (s.mac.compPending && s.mac.compNbf).toNat

/-- `ACKIND delim, sub, fcs` (R266, R267, R268), in every state: both machines move from the state before the step; the
result says whether the acknowledgement is of the frame on air; nothing else changes. -/
def Obligations.AckindOperation : Prop :=
  ∀ (s : State) (d : Delim) (sub : Bool) (fcs : BitVec 16),
    exec (.ackind d sub fcs) s =
      .next
        { s with
          mac :=
            { s.mac with
              occ :=
                if s.mac.occ = .rifs ∧ d = .ack then .cifs
                else if s.mac.occ = .rifs ∧ d = .nack then .rcifs
                else .eifs
              occEntered := s.now
              tx :=
                if s.mac.tx = .waitAck ∧ fcs = s.sess.txFcs then
                  (if d = .ack then .sendOk
                    else if d = .nack ∧ sub = false then .littleFail
                    else if d = .nack ∧ sub = true then .bigFail
                    else .waitAck)
                else s.mac.tx }
          response :=
            some (rspWord .ok (if s.mac.tx = .waitAck ∧ fcs = s.sess.txFcs then 1#24 else 0#24)) }

/-! ## The whole machine -/

/-- The transition table (R270): no operation moves the transmit sub-state but along its rows, `RESET` to `NONE` apart. -/
def Obligations.TransitionTable : Prop :=
  ∀ (i : Instr) (s t : State), exec i s = .next t →
    t.mac.tx = s.mac.tx ∨ (s.mac.tx, t.mac.tx) ∈ txMoves i ∨ ((∃ clr, i = .reset clr) ∧ t.mac.tx = .none)

/-- A request ends with exactly one confirm (R207, R225, R271), operation by operation: an operation that ends an active
request is a `RESET` or emits exactly one `TX_CONFIRM`; every other operation emits none. -/
def Obligations.ConfirmAtTheEnd : Prop :=
  ∀ (i : Instr) (s t : State), exec i s = .next t →
    (s.mac.tx ≠ .none → t.mac.tx = .none → (∀ clr, i ≠ .reset clr) →
      countBy Effect.isTxConfirm (newEffects s t) = 1) ∧
    (s.mac.tx = .none ∨ t.mac.tx ≠ .none ∨ (∃ clr, i = .reset clr) →
      countBy Effect.isTxConfirm (newEffects s t) = 0)

/-- Exactly one confirm over a run (R271): from a state with a request active, if the request is active after every one
of the next `n` steps and not after step `n + 1`, then those `n` steps emit no `TX_CONFIRM` and step `n + 1` emits exactly
one, or none if it is a `RESET`; and the `TXREQ` that started the request emits none. -/
def Obligations.OneConfirmPerRequest : Prop :=
  (∀ (n : Nat) (s u t : State), s.mac.tx ≠ .none →
    (∀ k w, k ≤ n → stateAfter k s = some w → w.mac.tx ≠ .none) →
    stateAfter n s = some u → step u = .next t → t.mac.tx = .none →
    confirmCount n s = 0 ∧
      countBy Effect.isTxConfirm t.effects = (if nextIsReset u then 0 else 1) ∧
      confirmCount (n + 1) s = (if nextIsReset u then 0 else 1)) ∧
    (∀ s t : State, exec .txreq s = .next t → t.effects = s.effects)

/-- An error response means that nothing changed (R103, R282): whatever the operation, a next state whose response code
is not `OK` differs from the state before in the response alone. The codes are numbered as R103 says, below the result. -/
def Obligations.ErrorsChangeNothing : Prop :=
  ([RspCode.ok, .errIllegal, .errBusy, .errParam, .errRo, .errReg, .rejected].map rspCodeNum =
    [0#8, 1#8, 2#8, 3#8, 4#8, 5#8, 6#8]) ∧
  (∀ (c : RspCode) (r : BitVec 24), (rspWord c r).toNat = (rspCodeNum c).toNat + 256 * r.toNat) ∧
  ∀ (i : Instr) (s t : State) (w : Word), exec i s = .next t → t.response = some w →
    w.extractLsb' 0 8 ≠ 0#8 → t = { s with response := some w }

/-- Who writes what. The busy lock (R23, R206, R327): while a request is active no operation but `RESET` changes the
configuration or the descriptor. The snapshot (R160) is changed by nothing but `PHYCALC`, `FALLBACK`, `RESET`, and the
`POLL` of `START` or `BIG_FAIL`. -/
def Obligations.LockAndSnapshot : Prop :=
  ∀ (i : Instr) (s t : State), exec i s = .next t →
    (s.mac.tx ≠ .none → (∀ clr, i ≠ .reset clr) → t.cfg = s.cfg ∧ t.txd = s.txd) ∧
    (t.snap ≠ s.snap →
      (∃ load, i = .phycalc load) ∨ (∃ r, i = .fallback r) ∨ (∃ clr, i = .reset clr) ∨
        (i = .poll ∧ (s.mac.tx = .start ∨ s.mac.tx = .bigFail)))

/-- Who writes the memories (R60, R61, R62): no operation writes `REQMEM`; only `RESET` writes `RXBUF`; `TXBUF` is written
by `RESET`, `ENCODE`, `NEXTSEG` and `POLL` alone, and those but `RESET` leave the bytes at and beyond the new `TX_LEN` as
they were. -/
def Obligations.MemoryWriters : Prop :=
  ∀ (i : Instr) (s t : State), exec i s = .next t →
    (∀ a, Memory.read t.reqmem a = Memory.read s.reqmem a) ∧
    ((∀ clr, i ≠ .reset clr) → ∀ a, Memory.read t.rxbuf a = Memory.read s.rxbuf a) ∧
    ((∀ clr, i ≠ .reset clr) → ∀ a, t.sess.txLen.toNat ≤ a → Memory.read t.txbuf a = Memory.read s.txbuf a) ∧
    ((∀ clr, i ≠ .reset clr) → (∀ len off, i ≠ .encode len off) → (∀ seg off, i ≠ .nextseg seg off) → i ≠ .poll →
      ∀ a, Memory.read t.txbuf a = Memory.read s.txbuf a)

/-- The invariant holds right after reset. -/
def Obligations.ResetInvariant : Prop := Inv State.reset

/-- Every step keeps the invariant `Inv`: canonical memories inside their spaces, the window between its bounds, the
on-air length inside `TXBUF`, hardwired bits 0, an accepted descriptor under an active request, the flags only where the
rules set them. -/
def Obligations.StepKeepsInvariant : Prop :=
  ∀ s t : State, Inv s → step s = .next t → Inv t

/-- The step is total (R6): from every state of the invariant it gives a next state, whatever is presented. -/
def Obligations.StepTotal : Prop :=
  ∀ s : State, Inv s → ∃ t, step s = .next t
end

