-- ==== Sys2Proof/Laws/State.lean ====
section
/-! SUPPORT. What every unconditional update of the state does to every field, one lemma each, so that no proof unfolds
a record update. -/

namespace Sys2Proof.Machine

/-! ## `State.respond` -/

@[simp] theorem State.respond_cfg (s : State) (c : RspCode) (r : BitVec 24) : (s.respond c r).cfg = s.cfg := rfl
@[simp] theorem State.respond_mac (s : State) (c : RspCode) (r : BitVec 24) : (s.respond c r).mac = s.mac := rfl
@[simp] theorem State.respond_csma (s : State) (c : RspCode) (r : BitVec 24) : (s.respond c r).csma = s.csma := rfl
@[simp] theorem State.respond_sess (s : State) (c : RspCode) (r : BitVec 24) : (s.respond c r).sess = s.sess := rfl
@[simp] theorem State.respond_cnt (s : State) (c : RspCode) (r : BitVec 24) : (s.respond c r).cnt = s.cnt := rfl
@[simp] theorem State.respond_snap (s : State) (c : RspCode) (r : BitVec 24) : (s.respond c r).snap = s.snap := rfl
@[simp] theorem State.respond_txd (s : State) (c : RspCode) (r : BitVec 24) : (s.respond c r).txd = s.txd := rfl
@[simp] theorem State.respond_txfr (s : State) (c : RspCode) (r : BitVec 24) : (s.respond c r).txfr = s.txfr := rfl
@[simp] theorem State.respond_rxfr (s : State) (c : RspCode) (r : BitVec 24) : (s.respond c r).rxfr = s.rxfr := rfl
@[simp] theorem State.respond_txbuf (s : State) (c : RspCode) (r : BitVec 24) : (s.respond c r).txbuf = s.txbuf := rfl
@[simp] theorem State.respond_rxbuf (s : State) (c : RspCode) (r : BitVec 24) : (s.respond c r).rxbuf = s.rxbuf := rfl
@[simp] theorem State.respond_reqmem (s : State) (c : RspCode) (r : BitVec 24) :
    (s.respond c r).reqmem =
      s.reqmem := rfl
@[simp] theorem State.respond_inputs (s : State) (c : RspCode) (r : BitVec 24) :
    (s.respond c r).inputs =
      s.inputs := rfl
@[simp] theorem State.respond_now (s : State) (c : RspCode) (r : BitVec 24) : (s.respond c r).now = s.now := rfl
@[simp] theorem State.respond_rnd (s : State) (c : RspCode) (r : BitVec 24) : (s.respond c r).rnd = s.rnd := rfl
@[simp] theorem State.respond_response (s : State) (c : RspCode) (r : BitVec 24) :
    (s.respond c r).response =
      some (rspWord c r) := rfl
@[simp] theorem State.respond_effects (s : State) (c : RspCode) (r : BitVec 24) :
    (s.respond c r).effects =
      s.effects := rfl

/-! ## `State.emit` -/

@[simp] theorem State.emit_cfg (s : State) (e : Effect) : (s.emit e).cfg = s.cfg := rfl
@[simp] theorem State.emit_mac (s : State) (e : Effect) : (s.emit e).mac = s.mac := rfl
@[simp] theorem State.emit_csma (s : State) (e : Effect) : (s.emit e).csma = s.csma := rfl
@[simp] theorem State.emit_sess (s : State) (e : Effect) : (s.emit e).sess = s.sess := rfl
@[simp] theorem State.emit_cnt (s : State) (e : Effect) : (s.emit e).cnt = s.cnt := rfl
@[simp] theorem State.emit_snap (s : State) (e : Effect) : (s.emit e).snap = s.snap := rfl
@[simp] theorem State.emit_txd (s : State) (e : Effect) : (s.emit e).txd = s.txd := rfl
@[simp] theorem State.emit_txfr (s : State) (e : Effect) : (s.emit e).txfr = s.txfr := rfl
@[simp] theorem State.emit_rxfr (s : State) (e : Effect) : (s.emit e).rxfr = s.rxfr := rfl
@[simp] theorem State.emit_txbuf (s : State) (e : Effect) : (s.emit e).txbuf = s.txbuf := rfl
@[simp] theorem State.emit_rxbuf (s : State) (e : Effect) : (s.emit e).rxbuf = s.rxbuf := rfl
@[simp] theorem State.emit_reqmem (s : State) (e : Effect) : (s.emit e).reqmem = s.reqmem := rfl
@[simp] theorem State.emit_inputs (s : State) (e : Effect) : (s.emit e).inputs = s.inputs := rfl
@[simp] theorem State.emit_now (s : State) (e : Effect) : (s.emit e).now = s.now := rfl
@[simp] theorem State.emit_rnd (s : State) (e : Effect) : (s.emit e).rnd = s.rnd := rfl
@[simp] theorem State.emit_response (s : State) (e : Effect) : (s.emit e).response = s.response := rfl
@[simp] theorem State.emit_effects (s : State) (e : Effect) : (s.emit e).effects = s.effects ++ [e] := rfl

/-! ## `State.enterOcc` -/

@[simp] theorem State.enterOcc_cfg (s : State) (o : Occ) : (s.enterOcc o).cfg = s.cfg := rfl
@[simp] theorem State.enterOcc_mac (s : State) (o : Occ) :
    (s.enterOcc o).mac =
      { s.mac with occ := o, occEntered := s.now } := rfl
@[simp] theorem State.enterOcc_csma (s : State) (o : Occ) : (s.enterOcc o).csma = s.csma := rfl
@[simp] theorem State.enterOcc_sess (s : State) (o : Occ) : (s.enterOcc o).sess = s.sess := rfl
@[simp] theorem State.enterOcc_cnt (s : State) (o : Occ) : (s.enterOcc o).cnt = s.cnt := rfl
@[simp] theorem State.enterOcc_snap (s : State) (o : Occ) : (s.enterOcc o).snap = s.snap := rfl
@[simp] theorem State.enterOcc_txd (s : State) (o : Occ) : (s.enterOcc o).txd = s.txd := rfl
@[simp] theorem State.enterOcc_txfr (s : State) (o : Occ) : (s.enterOcc o).txfr = s.txfr := rfl
@[simp] theorem State.enterOcc_rxfr (s : State) (o : Occ) : (s.enterOcc o).rxfr = s.rxfr := rfl
@[simp] theorem State.enterOcc_txbuf (s : State) (o : Occ) : (s.enterOcc o).txbuf = s.txbuf := rfl
@[simp] theorem State.enterOcc_rxbuf (s : State) (o : Occ) : (s.enterOcc o).rxbuf = s.rxbuf := rfl
@[simp] theorem State.enterOcc_reqmem (s : State) (o : Occ) : (s.enterOcc o).reqmem = s.reqmem := rfl
@[simp] theorem State.enterOcc_inputs (s : State) (o : Occ) : (s.enterOcc o).inputs = s.inputs := rfl
@[simp] theorem State.enterOcc_now (s : State) (o : Occ) : (s.enterOcc o).now = s.now := rfl
@[simp] theorem State.enterOcc_rnd (s : State) (o : Occ) : (s.enterOcc o).rnd = s.rnd := rfl
@[simp] theorem State.enterOcc_response (s : State) (o : Occ) : (s.enterOcc o).response = s.response := rfl
@[simp] theorem State.enterOcc_effects (s : State) (o : Occ) : (s.enterOcc o).effects = s.effects := rfl

/-! ## `State.setTx` -/

@[simp] theorem State.setTx_cfg (s : State) (t : TxSub) : (s.setTx t).cfg = s.cfg := rfl
@[simp] theorem State.setTx_mac (s : State) (t : TxSub) : (s.setTx t).mac = { s.mac with tx := t } := rfl
@[simp] theorem State.setTx_csma (s : State) (t : TxSub) : (s.setTx t).csma = s.csma := rfl
@[simp] theorem State.setTx_sess (s : State) (t : TxSub) : (s.setTx t).sess = s.sess := rfl
@[simp] theorem State.setTx_cnt (s : State) (t : TxSub) : (s.setTx t).cnt = s.cnt := rfl
@[simp] theorem State.setTx_snap (s : State) (t : TxSub) : (s.setTx t).snap = s.snap := rfl
@[simp] theorem State.setTx_txd (s : State) (t : TxSub) : (s.setTx t).txd = s.txd := rfl
@[simp] theorem State.setTx_txfr (s : State) (t : TxSub) : (s.setTx t).txfr = s.txfr := rfl
@[simp] theorem State.setTx_rxfr (s : State) (t : TxSub) : (s.setTx t).rxfr = s.rxfr := rfl
@[simp] theorem State.setTx_txbuf (s : State) (t : TxSub) : (s.setTx t).txbuf = s.txbuf := rfl
@[simp] theorem State.setTx_rxbuf (s : State) (t : TxSub) : (s.setTx t).rxbuf = s.rxbuf := rfl
@[simp] theorem State.setTx_reqmem (s : State) (t : TxSub) : (s.setTx t).reqmem = s.reqmem := rfl
@[simp] theorem State.setTx_inputs (s : State) (t : TxSub) : (s.setTx t).inputs = s.inputs := rfl
@[simp] theorem State.setTx_now (s : State) (t : TxSub) : (s.setTx t).now = s.now := rfl
@[simp] theorem State.setTx_rnd (s : State) (t : TxSub) : (s.setTx t).rnd = s.rnd := rfl
@[simp] theorem State.setTx_response (s : State) (t : TxSub) : (s.setTx t).response = s.response := rfl
@[simp] theorem State.setTx_effects (s : State) (t : TxSub) : (s.setTx t).effects = s.effects := rfl

/-! ## `State.conclude` -/

@[simp] theorem State.conclude_cfg (s : State) (o : TxOutcome) : (s.conclude o).cfg = s.cfg := rfl
@[simp] theorem State.conclude_mac (s : State) (o : TxOutcome) :
    (s.conclude o).mac =
      { s.mac with tx := .none, compPending := false, compNbf := false, immediate := false } := rfl
@[simp] theorem State.conclude_csma (s : State) (o : TxOutcome) : (s.conclude o).csma = s.csma := rfl
@[simp] theorem State.conclude_sess (s : State) (o : TxOutcome) : (s.conclude o).sess = s.sess := rfl
@[simp] theorem State.conclude_cnt (s : State) (o : TxOutcome) : (s.conclude o).cnt = s.cnt := rfl
@[simp] theorem State.conclude_snap (s : State) (o : TxOutcome) : (s.conclude o).snap = s.snap := rfl
@[simp] theorem State.conclude_txd (s : State) (o : TxOutcome) : (s.conclude o).txd = s.txd := rfl
@[simp] theorem State.conclude_txfr (s : State) (o : TxOutcome) : (s.conclude o).txfr = s.txfr := rfl
@[simp] theorem State.conclude_rxfr (s : State) (o : TxOutcome) : (s.conclude o).rxfr = s.rxfr := rfl
@[simp] theorem State.conclude_txbuf (s : State) (o : TxOutcome) : (s.conclude o).txbuf = s.txbuf := rfl
@[simp] theorem State.conclude_rxbuf (s : State) (o : TxOutcome) : (s.conclude o).rxbuf = s.rxbuf := rfl
@[simp] theorem State.conclude_reqmem (s : State) (o : TxOutcome) : (s.conclude o).reqmem = s.reqmem := rfl
@[simp] theorem State.conclude_inputs (s : State) (o : TxOutcome) : (s.conclude o).inputs = s.inputs := rfl
@[simp] theorem State.conclude_now (s : State) (o : TxOutcome) : (s.conclude o).now = s.now := rfl
@[simp] theorem State.conclude_rnd (s : State) (o : TxOutcome) : (s.conclude o).rnd = s.rnd := rfl
@[simp] theorem State.conclude_response (s : State) (o : TxOutcome) : (s.conclude o).response = s.response := rfl
@[simp] theorem State.conclude_effects (s : State) (o : TxOutcome) :
    (s.conclude o).effects =
      s.effects ++ [.txConfirm o s.snap.modType s.snap.scheme] := rfl

/-! ## `State.clearComp` -/

@[simp] theorem State.clearComp_cfg (s : State) : (s.clearComp).cfg = s.cfg := rfl
@[simp] theorem State.clearComp_mac (s : State) :
    (s.clearComp).mac =
      { s.mac with compPending := false, compNbf := false } := rfl
@[simp] theorem State.clearComp_csma (s : State) : (s.clearComp).csma = s.csma := rfl
@[simp] theorem State.clearComp_sess (s : State) : (s.clearComp).sess = s.sess := rfl
@[simp] theorem State.clearComp_cnt (s : State) : (s.clearComp).cnt = s.cnt := rfl
@[simp] theorem State.clearComp_snap (s : State) : (s.clearComp).snap = s.snap := rfl
@[simp] theorem State.clearComp_txd (s : State) : (s.clearComp).txd = s.txd := rfl
@[simp] theorem State.clearComp_txfr (s : State) : (s.clearComp).txfr = s.txfr := rfl
@[simp] theorem State.clearComp_rxfr (s : State) : (s.clearComp).rxfr = s.rxfr := rfl
@[simp] theorem State.clearComp_txbuf (s : State) : (s.clearComp).txbuf = s.txbuf := rfl
@[simp] theorem State.clearComp_rxbuf (s : State) : (s.clearComp).rxbuf = s.rxbuf := rfl
@[simp] theorem State.clearComp_reqmem (s : State) : (s.clearComp).reqmem = s.reqmem := rfl
@[simp] theorem State.clearComp_inputs (s : State) : (s.clearComp).inputs = s.inputs := rfl
@[simp] theorem State.clearComp_now (s : State) : (s.clearComp).now = s.now := rfl
@[simp] theorem State.clearComp_rnd (s : State) : (s.clearComp).rnd = s.rnd := rfl
@[simp] theorem State.clearComp_response (s : State) : (s.clearComp).response = s.response := rfl
@[simp] theorem State.clearComp_effects (s : State) : (s.clearComp).effects = s.effects := rfl

/-! ## `State.armComp` -/

@[simp] theorem State.armComp_cfg (s : State) (b : Bool) : (s.armComp b).cfg = s.cfg := rfl
@[simp] theorem State.armComp_mac (s : State) (b : Bool) :
    (s.armComp b).mac =
      { s.mac with compPending := true, compNbf := b } := rfl
@[simp] theorem State.armComp_csma (s : State) (b : Bool) : (s.armComp b).csma = s.csma := rfl
@[simp] theorem State.armComp_sess (s : State) (b : Bool) : (s.armComp b).sess = s.sess := rfl
@[simp] theorem State.armComp_cnt (s : State) (b : Bool) : (s.armComp b).cnt = s.cnt := rfl
@[simp] theorem State.armComp_snap (s : State) (b : Bool) : (s.armComp b).snap = s.snap := rfl
@[simp] theorem State.armComp_txd (s : State) (b : Bool) : (s.armComp b).txd = s.txd := rfl
@[simp] theorem State.armComp_txfr (s : State) (b : Bool) : (s.armComp b).txfr = s.txfr := rfl
@[simp] theorem State.armComp_rxfr (s : State) (b : Bool) : (s.armComp b).rxfr = s.rxfr := rfl
@[simp] theorem State.armComp_txbuf (s : State) (b : Bool) : (s.armComp b).txbuf = s.txbuf := rfl
@[simp] theorem State.armComp_rxbuf (s : State) (b : Bool) : (s.armComp b).rxbuf = s.rxbuf := rfl
@[simp] theorem State.armComp_reqmem (s : State) (b : Bool) : (s.armComp b).reqmem = s.reqmem := rfl
@[simp] theorem State.armComp_inputs (s : State) (b : Bool) : (s.armComp b).inputs = s.inputs := rfl
@[simp] theorem State.armComp_now (s : State) (b : Bool) : (s.armComp b).now = s.now := rfl
@[simp] theorem State.armComp_rnd (s : State) (b : Bool) : (s.armComp b).rnd = s.rnd := rfl
@[simp] theorem State.armComp_response (s : State) (b : Bool) : (s.armComp b).response = s.response := rfl
@[simp] theorem State.armComp_effects (s : State) (b : Bool) : (s.armComp b).effects = s.effects := rfl

/-! ## `State.setImmediate` -/

@[simp] theorem State.setImmediate_cfg (s : State) (b : Bool) : (s.setImmediate b).cfg = s.cfg := rfl
@[simp] theorem State.setImmediate_mac (s : State) (b : Bool) :
    (s.setImmediate b).mac =
      { s.mac with immediate := b } := rfl
@[simp] theorem State.setImmediate_csma (s : State) (b : Bool) : (s.setImmediate b).csma = s.csma := rfl
@[simp] theorem State.setImmediate_sess (s : State) (b : Bool) : (s.setImmediate b).sess = s.sess := rfl
@[simp] theorem State.setImmediate_cnt (s : State) (b : Bool) : (s.setImmediate b).cnt = s.cnt := rfl
@[simp] theorem State.setImmediate_snap (s : State) (b : Bool) : (s.setImmediate b).snap = s.snap := rfl
@[simp] theorem State.setImmediate_txd (s : State) (b : Bool) : (s.setImmediate b).txd = s.txd := rfl
@[simp] theorem State.setImmediate_txfr (s : State) (b : Bool) : (s.setImmediate b).txfr = s.txfr := rfl
@[simp] theorem State.setImmediate_rxfr (s : State) (b : Bool) : (s.setImmediate b).rxfr = s.rxfr := rfl
@[simp] theorem State.setImmediate_txbuf (s : State) (b : Bool) : (s.setImmediate b).txbuf = s.txbuf := rfl
@[simp] theorem State.setImmediate_rxbuf (s : State) (b : Bool) : (s.setImmediate b).rxbuf = s.rxbuf := rfl
@[simp] theorem State.setImmediate_reqmem (s : State) (b : Bool) : (s.setImmediate b).reqmem = s.reqmem := rfl
@[simp] theorem State.setImmediate_inputs (s : State) (b : Bool) : (s.setImmediate b).inputs = s.inputs := rfl
@[simp] theorem State.setImmediate_now (s : State) (b : Bool) : (s.setImmediate b).now = s.now := rfl
@[simp] theorem State.setImmediate_rnd (s : State) (b : Bool) : (s.setImmediate b).rnd = s.rnd := rfl
@[simp] theorem State.setImmediate_response (s : State) (b : Bool) : (s.setImmediate b).response = s.response := rfl
@[simp] theorem State.setImmediate_effects (s : State) (b : Bool) : (s.setImmediate b).effects = s.effects := rfl

/-! ## `State.storeFrame` -/

@[simp] theorem State.storeFrame_cfg (s : State) (l : List Byte) : (s.storeFrame l).cfg = s.cfg := rfl
@[simp] theorem State.storeFrame_mac (s : State) (l : List Byte) : (s.storeFrame l).mac = s.mac := rfl
@[simp] theorem State.storeFrame_csma (s : State) (l : List Byte) : (s.storeFrame l).csma = s.csma := rfl
@[simp] theorem State.storeFrame_sess (s : State) (l : List Byte) :
    (s.storeFrame l).sess =
      { s.sess with txLen := BitVec.ofNat 12 l.length, txFcs := fcsOf l } := rfl
@[simp] theorem State.storeFrame_cnt (s : State) (l : List Byte) : (s.storeFrame l).cnt = s.cnt := rfl
@[simp] theorem State.storeFrame_snap (s : State) (l : List Byte) : (s.storeFrame l).snap = s.snap := rfl
@[simp] theorem State.storeFrame_txd (s : State) (l : List Byte) : (s.storeFrame l).txd = s.txd := rfl
@[simp] theorem State.storeFrame_txfr (s : State) (l : List Byte) : (s.storeFrame l).txfr = s.txfr := rfl
@[simp] theorem State.storeFrame_rxfr (s : State) (l : List Byte) : (s.storeFrame l).rxfr = s.rxfr := rfl
@[simp] theorem State.storeFrame_txbuf (s : State) (l : List Byte) :
    (s.storeFrame l).txbuf =
      Memory.writeRun s.txbuf 0 l := rfl
@[simp] theorem State.storeFrame_rxbuf (s : State) (l : List Byte) : (s.storeFrame l).rxbuf = s.rxbuf := rfl
@[simp] theorem State.storeFrame_reqmem (s : State) (l : List Byte) : (s.storeFrame l).reqmem = s.reqmem := rfl
@[simp] theorem State.storeFrame_inputs (s : State) (l : List Byte) : (s.storeFrame l).inputs = s.inputs := rfl
@[simp] theorem State.storeFrame_now (s : State) (l : List Byte) : (s.storeFrame l).now = s.now := rfl
@[simp] theorem State.storeFrame_rnd (s : State) (l : List Byte) : (s.storeFrame l).rnd = s.rnd := rfl
@[simp] theorem State.storeFrame_response (s : State) (l : List Byte) : (s.storeFrame l).response = s.response := rfl
@[simp] theorem State.storeFrame_effects (s : State) (l : List Byte) : (s.storeFrame l).effects = s.effects := rfl

/-! ## `State.withSegment` -/

@[simp] theorem State.withSegment_cfg (s : State) (l : List Byte) : (s.withSegment l).cfg = s.cfg := rfl
@[simp] theorem State.withSegment_mac (s : State) (l : List Byte) :
    (s.withSegment l).mac =
      { s.mac with moreFrag := !s.nextSegLast } := rfl
@[simp] theorem State.withSegment_csma (s : State) (l : List Byte) : (s.withSegment l).csma = s.csma := rfl
@[simp] theorem State.withSegment_sess (s : State) (l : List Byte) :
    (s.withSegment l).sess =
      { s.sess with
        txLen := BitVec.ofNat 12 l.length
        txFcs := fcsOf l
        maxSegPayload := BitVec.ofNat 10 s.maxSeg
        segLen := BitVec.ofNat 10 s.nextSegLen } := rfl
@[simp] theorem State.withSegment_cnt (s : State) (l : List Byte) : (s.withSegment l).cnt = s.cnt := rfl
@[simp] theorem State.withSegment_snap (s : State) (l : List Byte) : (s.withSegment l).snap = s.snap := rfl
@[simp] theorem State.withSegment_txd (s : State) (l : List Byte) : (s.withSegment l).txd = s.txd := rfl
@[simp] theorem State.withSegment_txfr (s : State) (l : List Byte) :
    (s.withSegment l).txfr =
      FrameBank.ofFrame s.nextSegFrame := rfl
@[simp] theorem State.withSegment_rxfr (s : State) (l : List Byte) : (s.withSegment l).rxfr = s.rxfr := rfl
@[simp] theorem State.withSegment_txbuf (s : State) (l : List Byte) :
    (s.withSegment l).txbuf =
      Memory.writeRun s.txbuf 0 l := rfl
@[simp] theorem State.withSegment_rxbuf (s : State) (l : List Byte) : (s.withSegment l).rxbuf = s.rxbuf := rfl
@[simp] theorem State.withSegment_reqmem (s : State) (l : List Byte) : (s.withSegment l).reqmem = s.reqmem := rfl
@[simp] theorem State.withSegment_inputs (s : State) (l : List Byte) : (s.withSegment l).inputs = s.inputs := rfl
@[simp] theorem State.withSegment_now (s : State) (l : List Byte) : (s.withSegment l).now = s.now := rfl
@[simp] theorem State.withSegment_rnd (s : State) (l : List Byte) : (s.withSegment l).rnd = s.rnd := rfl
@[simp] theorem State.withSegment_response (s : State) (l : List Byte) :
    (s.withSegment l).response =
      s.response := rfl
@[simp] theorem State.withSegment_effects (s : State) (l : List Byte) : (s.withSegment l).effects = s.effects := rfl

/-! ## `State.segDone` -/

@[simp] theorem State.segDone_cfg (s : State) : (s.segDone).cfg = s.cfg := rfl
@[simp] theorem State.segDone_mac (s : State) : (s.segDone).mac = s.mac := rfl
@[simp] theorem State.segDone_csma (s : State) : (s.segDone).csma = s.csma := rfl
@[simp] theorem State.segDone_sess (s : State) :
    (s.segDone).sess =
      { s.sess with sentOffset := s.sess.sentOffset + s.sess.segLen.setWidth 16 } := rfl
@[simp] theorem State.segDone_cnt (s : State) : (s.segDone).cnt = s.cnt := rfl
@[simp] theorem State.segDone_snap (s : State) : (s.segDone).snap = s.snap := rfl
@[simp] theorem State.segDone_txd (s : State) : (s.segDone).txd = s.txd := rfl
@[simp] theorem State.segDone_txfr (s : State) : (s.segDone).txfr = s.txfr := rfl
@[simp] theorem State.segDone_rxfr (s : State) : (s.segDone).rxfr = s.rxfr := rfl
@[simp] theorem State.segDone_txbuf (s : State) : (s.segDone).txbuf = s.txbuf := rfl
@[simp] theorem State.segDone_rxbuf (s : State) : (s.segDone).rxbuf = s.rxbuf := rfl
@[simp] theorem State.segDone_reqmem (s : State) : (s.segDone).reqmem = s.reqmem := rfl
@[simp] theorem State.segDone_inputs (s : State) : (s.segDone).inputs = s.inputs := rfl
@[simp] theorem State.segDone_now (s : State) : (s.segDone).now = s.now := rfl
@[simp] theorem State.segDone_rnd (s : State) : (s.segDone).rnd = s.rnd := rfl
@[simp] theorem State.segDone_response (s : State) : (s.segDone).response = s.response := rfl
@[simp] theorem State.segDone_effects (s : State) : (s.segDone).effects = s.effects := rfl

/-! ## `State.seek` -/

@[simp] theorem State.seek_cfg (s : State) (i : BitVec 6) (o : BitVec 16) : (s.seek i o).cfg = s.cfg := rfl
@[simp] theorem State.seek_mac (s : State) (i : BitVec 6) (o : BitVec 16) : (s.seek i o).mac = s.mac := rfl
@[simp] theorem State.seek_csma (s : State) (i : BitVec 6) (o : BitVec 16) : (s.seek i o).csma = s.csma := rfl
@[simp] theorem State.seek_sess (s : State) (i : BitVec 6) (o : BitVec 16) :
    (s.seek i o).sess =
      { s.sess with segIndex := i, sentOffset := o } := rfl
@[simp] theorem State.seek_cnt (s : State) (i : BitVec 6) (o : BitVec 16) : (s.seek i o).cnt = s.cnt := rfl
@[simp] theorem State.seek_snap (s : State) (i : BitVec 6) (o : BitVec 16) : (s.seek i o).snap = s.snap := rfl
@[simp] theorem State.seek_txd (s : State) (i : BitVec 6) (o : BitVec 16) : (s.seek i o).txd = s.txd := rfl
@[simp] theorem State.seek_txfr (s : State) (i : BitVec 6) (o : BitVec 16) : (s.seek i o).txfr = s.txfr := rfl
@[simp] theorem State.seek_rxfr (s : State) (i : BitVec 6) (o : BitVec 16) : (s.seek i o).rxfr = s.rxfr := rfl
@[simp] theorem State.seek_txbuf (s : State) (i : BitVec 6) (o : BitVec 16) : (s.seek i o).txbuf = s.txbuf := rfl
@[simp] theorem State.seek_rxbuf (s : State) (i : BitVec 6) (o : BitVec 16) : (s.seek i o).rxbuf = s.rxbuf := rfl
@[simp] theorem State.seek_reqmem (s : State) (i : BitVec 6) (o : BitVec 16) : (s.seek i o).reqmem = s.reqmem := rfl
@[simp] theorem State.seek_inputs (s : State) (i : BitVec 6) (o : BitVec 16) : (s.seek i o).inputs = s.inputs := rfl
@[simp] theorem State.seek_now (s : State) (i : BitVec 6) (o : BitVec 16) : (s.seek i o).now = s.now := rfl
@[simp] theorem State.seek_rnd (s : State) (i : BitVec 6) (o : BitVec 16) : (s.seek i o).rnd = s.rnd := rfl
@[simp] theorem State.seek_response (s : State) (i : BitVec 6) (o : BitVec 16) :
    (s.seek i o).response =
      s.response := rfl
@[simp] theorem State.seek_effects (s : State) (i : BitVec 6) (o : BitVec 16) :
    (s.seek i o).effects =
      s.effects := rfl

/-! ## `State.setRetries` -/

@[simp] theorem State.setRetries_cfg (s : State) (v : BitVec 8) : (s.setRetries v).cfg = s.cfg := rfl
@[simp] theorem State.setRetries_mac (s : State) (v : BitVec 8) : (s.setRetries v).mac = s.mac := rfl
@[simp] theorem State.setRetries_csma (s : State) (v : BitVec 8) : (s.setRetries v).csma = s.csma := rfl
@[simp] theorem State.setRetries_sess (s : State) (v : BitVec 8) :
    (s.setRetries v).sess =
      { s.sess with retriesLeft := v } := rfl
@[simp] theorem State.setRetries_cnt (s : State) (v : BitVec 8) : (s.setRetries v).cnt = s.cnt := rfl
@[simp] theorem State.setRetries_snap (s : State) (v : BitVec 8) : (s.setRetries v).snap = s.snap := rfl
@[simp] theorem State.setRetries_txd (s : State) (v : BitVec 8) : (s.setRetries v).txd = s.txd := rfl
@[simp] theorem State.setRetries_txfr (s : State) (v : BitVec 8) : (s.setRetries v).txfr = s.txfr := rfl
@[simp] theorem State.setRetries_rxfr (s : State) (v : BitVec 8) : (s.setRetries v).rxfr = s.rxfr := rfl
@[simp] theorem State.setRetries_txbuf (s : State) (v : BitVec 8) : (s.setRetries v).txbuf = s.txbuf := rfl
@[simp] theorem State.setRetries_rxbuf (s : State) (v : BitVec 8) : (s.setRetries v).rxbuf = s.rxbuf := rfl
@[simp] theorem State.setRetries_reqmem (s : State) (v : BitVec 8) : (s.setRetries v).reqmem = s.reqmem := rfl
@[simp] theorem State.setRetries_inputs (s : State) (v : BitVec 8) : (s.setRetries v).inputs = s.inputs := rfl
@[simp] theorem State.setRetries_now (s : State) (v : BitVec 8) : (s.setRetries v).now = s.now := rfl
@[simp] theorem State.setRetries_rnd (s : State) (v : BitVec 8) : (s.setRetries v).rnd = s.rnd := rfl
@[simp] theorem State.setRetries_response (s : State) (v : BitVec 8) : (s.setRetries v).response = s.response := rfl
@[simp] theorem State.setRetries_effects (s : State) (v : BitVec 8) : (s.setRetries v).effects = s.effects := rfl

/-! ## `State.nextIndex` -/

@[simp] theorem State.nextIndex_cfg (s : State) : (s.nextIndex).cfg = s.cfg := rfl
@[simp] theorem State.nextIndex_mac (s : State) : (s.nextIndex).mac = s.mac := rfl
@[simp] theorem State.nextIndex_csma (s : State) : (s.nextIndex).csma = s.csma := rfl
@[simp] theorem State.nextIndex_sess (s : State) :
    (s.nextIndex).sess =
      { s.sess with segIndex := s.sess.segIndex + 1#6, retriesLeft := s.cfg.maxFrameRetries } := rfl
@[simp] theorem State.nextIndex_cnt (s : State) : (s.nextIndex).cnt = s.cnt := rfl
@[simp] theorem State.nextIndex_snap (s : State) : (s.nextIndex).snap = s.snap := rfl
@[simp] theorem State.nextIndex_txd (s : State) : (s.nextIndex).txd = s.txd := rfl
@[simp] theorem State.nextIndex_txfr (s : State) : (s.nextIndex).txfr = s.txfr := rfl
@[simp] theorem State.nextIndex_rxfr (s : State) : (s.nextIndex).rxfr = s.rxfr := rfl
@[simp] theorem State.nextIndex_txbuf (s : State) : (s.nextIndex).txbuf = s.txbuf := rfl
@[simp] theorem State.nextIndex_rxbuf (s : State) : (s.nextIndex).rxbuf = s.rxbuf := rfl
@[simp] theorem State.nextIndex_reqmem (s : State) : (s.nextIndex).reqmem = s.reqmem := rfl
@[simp] theorem State.nextIndex_inputs (s : State) : (s.nextIndex).inputs = s.inputs := rfl
@[simp] theorem State.nextIndex_now (s : State) : (s.nextIndex).now = s.now := rfl
@[simp] theorem State.nextIndex_rnd (s : State) : (s.nextIndex).rnd = s.rnd := rfl
@[simp] theorem State.nextIndex_response (s : State) : (s.nextIndex).response = s.response := rfl
@[simp] theorem State.nextIndex_effects (s : State) : (s.nextIndex).effects = s.effects := rfl

/-! ## `State.accessOk` -/

@[simp] theorem State.accessOk_cfg (s : State) : (s.accessOk).cfg = s.cfg := rfl
@[simp] theorem State.accessOk_mac (s : State) : (s.accessOk).mac = s.mac := rfl
@[simp] theorem State.accessOk_csma (s : State) : (s.accessOk).csma = s.csma.accessOk s.cfg := rfl
@[simp] theorem State.accessOk_sess (s : State) : (s.accessOk).sess = s.sess := rfl
@[simp] theorem State.accessOk_cnt (s : State) : (s.accessOk).cnt = s.cnt := rfl
@[simp] theorem State.accessOk_snap (s : State) : (s.accessOk).snap = s.snap := rfl
@[simp] theorem State.accessOk_txd (s : State) : (s.accessOk).txd = s.txd := rfl
@[simp] theorem State.accessOk_txfr (s : State) : (s.accessOk).txfr = s.txfr := rfl
@[simp] theorem State.accessOk_rxfr (s : State) : (s.accessOk).rxfr = s.rxfr := rfl
@[simp] theorem State.accessOk_txbuf (s : State) : (s.accessOk).txbuf = s.txbuf := rfl
@[simp] theorem State.accessOk_rxbuf (s : State) : (s.accessOk).rxbuf = s.rxbuf := rfl
@[simp] theorem State.accessOk_reqmem (s : State) : (s.accessOk).reqmem = s.reqmem := rfl
@[simp] theorem State.accessOk_inputs (s : State) : (s.accessOk).inputs = s.inputs := rfl
@[simp] theorem State.accessOk_now (s : State) : (s.accessOk).now = s.now := rfl
@[simp] theorem State.accessOk_rnd (s : State) : (s.accessOk).rnd = s.rnd := rfl
@[simp] theorem State.accessOk_response (s : State) : (s.accessOk).response = s.response := rfl
@[simp] theorem State.accessOk_effects (s : State) : (s.accessOk).effects = s.effects := rfl

/-! ## `State.compensate` -/

@[simp] theorem State.compensate_cfg (s : State) : (s.compensate).cfg = s.cfg := rfl
@[simp] theorem State.compensate_mac (s : State) :
    (s.compensate).mac =
      { s.mac with compPending := false, compNbf := false } := rfl
@[simp] theorem State.compensate_csma (s : State) :
    (s.compensate).csma =
      s.csma.compensated s.mac.compPending s.mac.compNbf := rfl
@[simp] theorem State.compensate_sess (s : State) : (s.compensate).sess = s.sess := rfl
@[simp] theorem State.compensate_cnt (s : State) : (s.compensate).cnt = s.cnt := rfl
@[simp] theorem State.compensate_snap (s : State) : (s.compensate).snap = s.snap := rfl
@[simp] theorem State.compensate_txd (s : State) : (s.compensate).txd = s.txd := rfl
@[simp] theorem State.compensate_txfr (s : State) : (s.compensate).txfr = s.txfr := rfl
@[simp] theorem State.compensate_rxfr (s : State) : (s.compensate).rxfr = s.rxfr := rfl
@[simp] theorem State.compensate_txbuf (s : State) : (s.compensate).txbuf = s.txbuf := rfl
@[simp] theorem State.compensate_rxbuf (s : State) : (s.compensate).rxbuf = s.rxbuf := rfl
@[simp] theorem State.compensate_reqmem (s : State) : (s.compensate).reqmem = s.reqmem := rfl
@[simp] theorem State.compensate_inputs (s : State) : (s.compensate).inputs = s.inputs := rfl
@[simp] theorem State.compensate_now (s : State) : (s.compensate).now = s.now := rfl
@[simp] theorem State.compensate_rnd (s : State) : (s.compensate).rnd = s.rnd := rfl
@[simp] theorem State.compensate_response (s : State) : (s.compensate).response = s.response := rfl
@[simp] theorem State.compensate_effects (s : State) : (s.compensate).effects = s.effects := rfl

/-! ## `State.acceptRequest` -/

@[simp] theorem State.acceptRequest_cfg (s : State) : (s.acceptRequest).cfg = s.cfg := rfl
@[simp] theorem State.acceptRequest_mac (s : State) : (s.acceptRequest).mac = s.mac.accepted := rfl
@[simp] theorem State.acceptRequest_csma (s : State) :
    (s.acceptRequest).csma =
      { s.csma with nb := 0#8, nbf := 0#8 } := rfl
@[simp] theorem State.acceptRequest_sess (s : State) : (s.acceptRequest).sess = s.sess.accepted := rfl
@[simp] theorem State.acceptRequest_cnt (s : State) : (s.acceptRequest).cnt = s.cnt := rfl
@[simp] theorem State.acceptRequest_snap (s : State) : (s.acceptRequest).snap = s.snap := rfl
@[simp] theorem State.acceptRequest_txd (s : State) : (s.acceptRequest).txd = s.txd := rfl
@[simp] theorem State.acceptRequest_txfr (s : State) : (s.acceptRequest).txfr = s.txfr := rfl
@[simp] theorem State.acceptRequest_rxfr (s : State) : (s.acceptRequest).rxfr = s.rxfr := rfl
@[simp] theorem State.acceptRequest_txbuf (s : State) : (s.acceptRequest).txbuf = s.txbuf := rfl
@[simp] theorem State.acceptRequest_rxbuf (s : State) : (s.acceptRequest).rxbuf = s.rxbuf := rfl
@[simp] theorem State.acceptRequest_reqmem (s : State) : (s.acceptRequest).reqmem = s.reqmem := rfl
@[simp] theorem State.acceptRequest_inputs (s : State) : (s.acceptRequest).inputs = s.inputs := rfl
@[simp] theorem State.acceptRequest_now (s : State) : (s.acceptRequest).now = s.now := rfl
@[simp] theorem State.acceptRequest_rnd (s : State) : (s.acceptRequest).rnd = s.rnd := rfl
@[simp] theorem State.acceptRequest_response (s : State) : (s.acceptRequest).response = s.response := rfl
@[simp] theorem State.acceptRequest_effects (s : State) : (s.acceptRequest).effects = s.effects := rfl

/-! ## `State.pollAnswer` -/

@[simp] theorem State.pollAnswer_cfg (s : State) : (s.pollAnswer).cfg = s.cfg := rfl
@[simp] theorem State.pollAnswer_mac (s : State) : (s.pollAnswer).mac = s.mac := rfl
@[simp] theorem State.pollAnswer_csma (s : State) : (s.pollAnswer).csma = s.csma := rfl
@[simp] theorem State.pollAnswer_sess (s : State) : (s.pollAnswer).sess = s.sess := rfl
@[simp] theorem State.pollAnswer_cnt (s : State) : (s.pollAnswer).cnt = s.cnt := rfl
@[simp] theorem State.pollAnswer_snap (s : State) : (s.pollAnswer).snap = s.snap := rfl
@[simp] theorem State.pollAnswer_txd (s : State) : (s.pollAnswer).txd = s.txd := rfl
@[simp] theorem State.pollAnswer_txfr (s : State) : (s.pollAnswer).txfr = s.txfr := rfl
@[simp] theorem State.pollAnswer_rxfr (s : State) : (s.pollAnswer).rxfr = s.rxfr := rfl
@[simp] theorem State.pollAnswer_txbuf (s : State) : (s.pollAnswer).txbuf = s.txbuf := rfl
@[simp] theorem State.pollAnswer_rxbuf (s : State) : (s.pollAnswer).rxbuf = s.rxbuf := rfl
@[simp] theorem State.pollAnswer_reqmem (s : State) : (s.pollAnswer).reqmem = s.reqmem := rfl
@[simp] theorem State.pollAnswer_inputs (s : State) : (s.pollAnswer).inputs = s.inputs := rfl
@[simp] theorem State.pollAnswer_now (s : State) : (s.pollAnswer).now = s.now := rfl
@[simp] theorem State.pollAnswer_rnd (s : State) : (s.pollAnswer).rnd = s.rnd := rfl
@[simp] theorem State.pollAnswer_response (s : State) :
    (s.pollAnswer).response =
      some (rspWord .ok (s.mac.stateBits.setWidth 24)) := rfl
@[simp] theorem State.pollAnswer_effects (s : State) : (s.pollAnswer).effects = s.effects := rfl

/-! ## `State.takeTurn` -/

@[simp] theorem State.takeTurn_cfg (s : State) (l : List Input) : (s.takeTurn l).cfg = s.cfg := rfl
@[simp] theorem State.takeTurn_mac (s : State) (l : List Input) : (s.takeTurn l).mac = s.mac := rfl
@[simp] theorem State.takeTurn_csma (s : State) (l : List Input) : (s.takeTurn l).csma = s.csma := rfl
@[simp] theorem State.takeTurn_sess (s : State) (l : List Input) : (s.takeTurn l).sess = s.sess := rfl
@[simp] theorem State.takeTurn_cnt (s : State) (l : List Input) : (s.takeTurn l).cnt = s.cnt := rfl
@[simp] theorem State.takeTurn_snap (s : State) (l : List Input) : (s.takeTurn l).snap = s.snap := rfl
@[simp] theorem State.takeTurn_txd (s : State) (l : List Input) : (s.takeTurn l).txd = s.txd := rfl
@[simp] theorem State.takeTurn_txfr (s : State) (l : List Input) : (s.takeTurn l).txfr = s.txfr := rfl
@[simp] theorem State.takeTurn_rxfr (s : State) (l : List Input) : (s.takeTurn l).rxfr = s.rxfr := rfl
@[simp] theorem State.takeTurn_txbuf (s : State) (l : List Input) : (s.takeTurn l).txbuf = s.txbuf := rfl
@[simp] theorem State.takeTurn_rxbuf (s : State) (l : List Input) : (s.takeTurn l).rxbuf = s.rxbuf := rfl
@[simp] theorem State.takeTurn_reqmem (s : State) (l : List Input) : (s.takeTurn l).reqmem = s.reqmem := rfl
@[simp] theorem State.takeTurn_inputs (s : State) (l : List Input) : (s.takeTurn l).inputs = l := rfl
@[simp] theorem State.takeTurn_now (s : State) (l : List Input) : (s.takeTurn l).now = s.now := rfl
@[simp] theorem State.takeTurn_rnd (s : State) (l : List Input) : (s.takeTurn l).rnd = s.rnd := rfl
@[simp] theorem State.takeTurn_response (s : State) (l : List Input) : (s.takeTurn l).response = none := rfl
@[simp] theorem State.takeTurn_effects (s : State) (l : List Input) : (s.takeTurn l).effects = [] := rfl

/-! ## `State.sample` -/

@[simp] theorem State.sample_cfg (s : State) (n : Word) (r : BitVec 16) : (s.sample n r).cfg = s.cfg := rfl
@[simp] theorem State.sample_mac (s : State) (n : Word) (r : BitVec 16) : (s.sample n r).mac = s.mac := rfl
@[simp] theorem State.sample_csma (s : State) (n : Word) (r : BitVec 16) : (s.sample n r).csma = s.csma := rfl
@[simp] theorem State.sample_sess (s : State) (n : Word) (r : BitVec 16) : (s.sample n r).sess = s.sess := rfl
@[simp] theorem State.sample_cnt (s : State) (n : Word) (r : BitVec 16) : (s.sample n r).cnt = s.cnt := rfl
@[simp] theorem State.sample_snap (s : State) (n : Word) (r : BitVec 16) : (s.sample n r).snap = s.snap := rfl
@[simp] theorem State.sample_txd (s : State) (n : Word) (r : BitVec 16) : (s.sample n r).txd = s.txd := rfl
@[simp] theorem State.sample_txfr (s : State) (n : Word) (r : BitVec 16) : (s.sample n r).txfr = s.txfr := rfl
@[simp] theorem State.sample_rxfr (s : State) (n : Word) (r : BitVec 16) : (s.sample n r).rxfr = s.rxfr := rfl
@[simp] theorem State.sample_txbuf (s : State) (n : Word) (r : BitVec 16) : (s.sample n r).txbuf = s.txbuf := rfl
@[simp] theorem State.sample_rxbuf (s : State) (n : Word) (r : BitVec 16) : (s.sample n r).rxbuf = s.rxbuf := rfl
@[simp] theorem State.sample_reqmem (s : State) (n : Word) (r : BitVec 16) : (s.sample n r).reqmem = s.reqmem := rfl
@[simp] theorem State.sample_inputs (s : State) (n : Word) (r : BitVec 16) : (s.sample n r).inputs = s.inputs := rfl
@[simp] theorem State.sample_now (s : State) (n : Word) (r : BitVec 16) : (s.sample n r).now = n := rfl
@[simp] theorem State.sample_rnd (s : State) (n : Word) (r : BitVec 16) : (s.sample n r).rnd = r := rfl
@[simp] theorem State.sample_response (s : State) (n : Word) (r : BitVec 16) :
    (s.sample n r).response =
      s.response := rfl
@[simp] theorem State.sample_effects (s : State) (n : Word) (r : BitVec 16) :
    (s.sample n r).effects =
      s.effects := rfl

/-! ## `State.illegal` -/

@[simp] theorem State.illegal_cfg (s : State) : (s.illegal).cfg = s.cfg := rfl
@[simp] theorem State.illegal_mac (s : State) : (s.illegal).mac = s.mac := rfl
@[simp] theorem State.illegal_csma (s : State) : (s.illegal).csma = s.csma := rfl
@[simp] theorem State.illegal_sess (s : State) : (s.illegal).sess = s.sess := rfl
@[simp] theorem State.illegal_cnt (s : State) : (s.illegal).cnt = s.cnt := rfl
@[simp] theorem State.illegal_snap (s : State) : (s.illegal).snap = s.snap := rfl
@[simp] theorem State.illegal_txd (s : State) : (s.illegal).txd = s.txd := rfl
@[simp] theorem State.illegal_txfr (s : State) : (s.illegal).txfr = s.txfr := rfl
@[simp] theorem State.illegal_rxfr (s : State) : (s.illegal).rxfr = s.rxfr := rfl
@[simp] theorem State.illegal_txbuf (s : State) : (s.illegal).txbuf = s.txbuf := rfl
@[simp] theorem State.illegal_rxbuf (s : State) : (s.illegal).rxbuf = s.rxbuf := rfl
@[simp] theorem State.illegal_reqmem (s : State) : (s.illegal).reqmem = s.reqmem := rfl
@[simp] theorem State.illegal_inputs (s : State) : (s.illegal).inputs = s.inputs := rfl
@[simp] theorem State.illegal_now (s : State) : (s.illegal).now = s.now := rfl
@[simp] theorem State.illegal_rnd (s : State) : (s.illegal).rnd = s.rnd := rfl
@[simp] theorem State.illegal_response (s : State) : (s.illegal).response = some (rspWord .errIllegal 0#24) := rfl
@[simp] theorem State.illegal_effects (s : State) : (s.illegal).effects = s.effects := rfl

/-! ## `State.writeReqmem` -/

@[simp] theorem State.writeReqmem_cfg (s : State) (a : BitVec 16) (b : Byte) : (s.writeReqmem a b).cfg = s.cfg := rfl
@[simp] theorem State.writeReqmem_mac (s : State) (a : BitVec 16) (b : Byte) : (s.writeReqmem a b).mac = s.mac := rfl
@[simp] theorem State.writeReqmem_csma (s : State) (a : BitVec 16) (b : Byte) :
    (s.writeReqmem a b).csma =
      s.csma := rfl
@[simp] theorem State.writeReqmem_sess (s : State) (a : BitVec 16) (b : Byte) :
    (s.writeReqmem a b).sess =
      s.sess := rfl
@[simp] theorem State.writeReqmem_cnt (s : State) (a : BitVec 16) (b : Byte) : (s.writeReqmem a b).cnt = s.cnt := rfl
@[simp] theorem State.writeReqmem_snap (s : State) (a : BitVec 16) (b : Byte) :
    (s.writeReqmem a b).snap =
      s.snap := rfl
@[simp] theorem State.writeReqmem_txd (s : State) (a : BitVec 16) (b : Byte) : (s.writeReqmem a b).txd = s.txd := rfl
@[simp] theorem State.writeReqmem_txfr (s : State) (a : BitVec 16) (b : Byte) :
    (s.writeReqmem a b).txfr =
      s.txfr := rfl
@[simp] theorem State.writeReqmem_rxfr (s : State) (a : BitVec 16) (b : Byte) :
    (s.writeReqmem a b).rxfr =
      s.rxfr := rfl
@[simp] theorem State.writeReqmem_txbuf (s : State) (a : BitVec 16) (b : Byte) :
    (s.writeReqmem a b).txbuf =
      s.txbuf := rfl
@[simp] theorem State.writeReqmem_rxbuf (s : State) (a : BitVec 16) (b : Byte) :
    (s.writeReqmem a b).rxbuf =
      s.rxbuf := rfl
@[simp] theorem State.writeReqmem_reqmem (s : State) (a : BitVec 16) (b : Byte) :
    (s.writeReqmem a b).reqmem =
      Memory.write s.reqmem a.toNat b := rfl
@[simp] theorem State.writeReqmem_inputs (s : State) (a : BitVec 16) (b : Byte) :
    (s.writeReqmem a b).inputs =
      s.inputs := rfl
@[simp] theorem State.writeReqmem_now (s : State) (a : BitVec 16) (b : Byte) : (s.writeReqmem a b).now = s.now := rfl
@[simp] theorem State.writeReqmem_rnd (s : State) (a : BitVec 16) (b : Byte) : (s.writeReqmem a b).rnd = s.rnd := rfl
@[simp] theorem State.writeReqmem_response (s : State) (a : BitVec 16) (b : Byte) :
    (s.writeReqmem a b).response =
      s.response := rfl
@[simp] theorem State.writeReqmem_effects (s : State) (a : BitVec 16) (b : Byte) :
    (s.writeReqmem a b).effects =
      s.effects := rfl

/-! ## `State.writeRxbuf` -/

@[simp] theorem State.writeRxbuf_cfg (s : State) (a : BitVec 11) (b : Byte) : (s.writeRxbuf a b).cfg = s.cfg := rfl
@[simp] theorem State.writeRxbuf_mac (s : State) (a : BitVec 11) (b : Byte) : (s.writeRxbuf a b).mac = s.mac := rfl
@[simp] theorem State.writeRxbuf_csma (s : State) (a : BitVec 11) (b : Byte) : (s.writeRxbuf a b).csma = s.csma := rfl
@[simp] theorem State.writeRxbuf_sess (s : State) (a : BitVec 11) (b : Byte) : (s.writeRxbuf a b).sess = s.sess := rfl
@[simp] theorem State.writeRxbuf_cnt (s : State) (a : BitVec 11) (b : Byte) : (s.writeRxbuf a b).cnt = s.cnt := rfl
@[simp] theorem State.writeRxbuf_snap (s : State) (a : BitVec 11) (b : Byte) : (s.writeRxbuf a b).snap = s.snap := rfl
@[simp] theorem State.writeRxbuf_txd (s : State) (a : BitVec 11) (b : Byte) : (s.writeRxbuf a b).txd = s.txd := rfl
@[simp] theorem State.writeRxbuf_txfr (s : State) (a : BitVec 11) (b : Byte) : (s.writeRxbuf a b).txfr = s.txfr := rfl
@[simp] theorem State.writeRxbuf_rxfr (s : State) (a : BitVec 11) (b : Byte) : (s.writeRxbuf a b).rxfr = s.rxfr := rfl
@[simp] theorem State.writeRxbuf_txbuf (s : State) (a : BitVec 11) (b : Byte) :
    (s.writeRxbuf a b).txbuf =
      s.txbuf := rfl
@[simp] theorem State.writeRxbuf_rxbuf (s : State) (a : BitVec 11) (b : Byte) :
    (s.writeRxbuf a b).rxbuf =
      Memory.write s.rxbuf a.toNat b := rfl
@[simp] theorem State.writeRxbuf_reqmem (s : State) (a : BitVec 11) (b : Byte) :
    (s.writeRxbuf a b).reqmem =
      s.reqmem := rfl
@[simp] theorem State.writeRxbuf_inputs (s : State) (a : BitVec 11) (b : Byte) :
    (s.writeRxbuf a b).inputs =
      s.inputs := rfl
@[simp] theorem State.writeRxbuf_now (s : State) (a : BitVec 11) (b : Byte) : (s.writeRxbuf a b).now = s.now := rfl
@[simp] theorem State.writeRxbuf_rnd (s : State) (a : BitVec 11) (b : Byte) : (s.writeRxbuf a b).rnd = s.rnd := rfl
@[simp] theorem State.writeRxbuf_response (s : State) (a : BitVec 11) (b : Byte) :
    (s.writeRxbuf a b).response =
      s.response := rfl
@[simp] theorem State.writeRxbuf_effects (s : State) (a : BitVec 11) (b : Byte) :
    (s.writeRxbuf a b).effects =
      s.effects := rfl

/-! ## `State.cleared` -/

@[simp] theorem State.cleared_cfg (s : State) (b : Bool) : (s.cleared b).cfg = resetCfg s.cfg b := rfl
@[simp] theorem State.cleared_mac (s : State) (b : Bool) : (s.cleared b).mac = MacBank.reset := rfl
@[simp] theorem State.cleared_csma (s : State) (b : Bool) :
    (s.cleared b).csma =
      CsmaBank.resetWith (BitVec.ofNat 16 (resetCfg s.cfg b).minW) := rfl
@[simp] theorem State.cleared_sess (s : State) (b : Bool) : (s.cleared b).sess = SessBank.reset := rfl
@[simp] theorem State.cleared_cnt (s : State) (b : Bool) : (s.cleared b).cnt = CntBank.reset := rfl
@[simp] theorem State.cleared_snap (s : State) (b : Bool) : (s.cleared b).snap = SnapBank.reset := rfl
@[simp] theorem State.cleared_txd (s : State) (b : Bool) : (s.cleared b).txd = TxdBank.reset := rfl
@[simp] theorem State.cleared_txfr (s : State) (b : Bool) : (s.cleared b).txfr = FrameBank.reset := rfl
@[simp] theorem State.cleared_rxfr (s : State) (b : Bool) : (s.cleared b).rxfr = RxBank.reset := rfl
@[simp] theorem State.cleared_txbuf (s : State) (b : Bool) : (s.cleared b).txbuf = [] := rfl
@[simp] theorem State.cleared_rxbuf (s : State) (b : Bool) : (s.cleared b).rxbuf = [] := rfl
@[simp] theorem State.cleared_reqmem (s : State) (b : Bool) : (s.cleared b).reqmem = s.reqmem := rfl
@[simp] theorem State.cleared_inputs (s : State) (b : Bool) : (s.cleared b).inputs = s.inputs := rfl
@[simp] theorem State.cleared_now (s : State) (b : Bool) : (s.cleared b).now = s.now := rfl
@[simp] theorem State.cleared_rnd (s : State) (b : Bool) : (s.cleared b).rnd = s.rnd := rfl
@[simp] theorem State.cleared_response (s : State) (b : Bool) : (s.cleared b).response = s.response := rfl
@[simp] theorem State.cleared_effects (s : State) (b : Bool) : (s.cleared b).effects = s.effects := rfl

end Sys2Proof.Machine
end

