-- ==== Sys2Proof/Laws/Ops.lean ====
section
/-! SUPPORT. What the shared operations of `Machine/Ops.lean` and `Machine/Flags.lean` can do, said once. -/

namespace Sys2Proof.Machine

/-! ## Unit operations -/

theorem busy_eq_false (s : State) (h : s.mac.tx = .none) : s.busy = false := by simp [State.busy, h]

theorem busy_eq_true (s : State) (h : s.mac.tx ≠ .none) : s.busy = true := by simp [State.busy, h]

theorem unitOp_idle (s : State) (f : State → State) (h : s.mac.tx = .none) : unitOp s f = .next (f s) := by
  simp [unitOp, busy_eq_false s h]

theorem unitOp_busy (s : State) (f : State → State) (h : s.mac.tx ≠ .none) :
    unitOp s f = .next (s.respond .errBusy 0#24) := by
  simp [unitOp, busy_eq_true s h, refuseWith]

/-- A unit operation answers `ERR_BUSY` and nothing else, or no request is active and it is its function. -/
theorem unitOp_cases (s t : State) (f : State → State) (h : unitOp s f = .next t) :
    (s.mac.tx ≠ .none ∧ t = s.respond .errBusy 0#24) ∨ (s.mac.tx = .none ∧ t = f s) := by
  by_cases hb : s.mac.tx = .none
  · rw [unitOp_idle s f hb] at h
    exact .inr ⟨hb, (Host.Outcome.next.inj h).symm⟩
  · rw [unitOp_busy s f hb] at h
    exact .inl ⟨hb, (Host.Outcome.next.inj h).symm⟩

/-! ## Response word, clock, counters -/

/-- The code stands in the low byte of the response word (R103). -/
theorem rspWord_code (c : RspCode) (r : BitVec 24) : (rspWord c r).extractLsb' 0 8 = rspCodeNum c := by
  apply BitVec.eq_of_toNat_eq
  have := (rspCodeNum c).isLt
  simp only [rspWord, BitVec.extractLsb'_toNat, BitVec.toNat_append, Nat.shiftRight_zero]
  rw [Nat.shiftLeft_eq, Nat.mul_comm, ← Nat.two_pow_add_eq_or_of_lt this]
  omega

theorem elapsed_toNat (now t0 : Word) : (elapsed now t0).toNat = (now.toNat + 2 ^ 32 - t0.toNat) % 2 ^ 32 := by
  unfold elapsed
  rw [BitVec.toNat_sub]
  congr 1
  omega

theorem isBefore_eq (t0 now : Word) : isBefore t0 now = (t0 - now).getLsbD 31 := rfl

theorem record_badCrc (c : CntBank) :
    c.record .badCrc = { c with badCrc := c.badCrc + 1#32, lastReject := .badCrc } := rfl

theorem record_other (c : CntBank) (code : RejectCode) (h : code ≠ .badCrc) :
    c.record code = { c with malformed := c.malformed + 1#32, lastReject := code } := by
  simp [CntBank.record, h]

/-! ## Saturating counters -/

theorem sat8Inc_toNat (v : BitVec 8) : (sat8Inc v).toNat = min (v.toNat + 1) 255 := by
  unfold sat8Inc
  rw [BitVec.toNat_ofNat]
  omega

theorem decIfPositive_toNat (v : BitVec 8) : (decIfPositive v).toNat = v.toNat - 1 := by
  revert v
  decide +kernel

end Sys2Proof.Machine
end

