-- ==== Sys2Proof/Laws/Backoff.lean ====
section
/-! SUPPORT. The arithmetic of the contention window: no step of it wraps in 16 bits. -/

namespace Sys2Proof.Machine

theorem two_pow_le_of_nibble (b : BitVec 4) : 2 ^ b.toNat ≤ 32768 :=
  Nat.pow_le_pow_right (n := 2) (by decide) (show b.toNat ≤ 15 by have := b.isLt; omega)

theorem minW_le (c : CfgBank) : c.minW ≤ 32768 := two_pow_le_of_nibble c.minBE

theorem maxW_le (c : CfgBank) : c.maxW ≤ 32768 := two_pow_le_of_nibble c.maxBE

theorem minW_pos (c : CfgBank) : 0 < c.minW := by
  unfold CfgBank.minW
  positivity

theorem maxW_pos (c : CfgBank) : 0 < c.maxW := by
  unfold CfgBank.maxW
  positivity

theorem ofNat_minW (c : CfgBank) : (BitVec.ofNat 16 c.minW).toNat = c.minW := by
  rw [BitVec.toNat_ofNat]
  have := minW_le c
  omega

theorem ofNat_maxW (c : CfgBank) : (BitVec.ofNat 16 c.maxW).toNat = c.maxW := by
  rw [BitVec.toNat_ofNat]
  have := maxW_le c
  omega

theorem shrink_toNat (c : CfgBank) (w : BitVec 16) :
    (shrink c w).toNat = max (w.toNat - c.csmaA.toNat * c.minW) c.minW := by
  unfold shrink
  rw [BitVec.toNat_ofNat]
  apply Nat.mod_eq_of_lt
  have := minW_le c
  have := w.isLt
  generalize c.csmaA.toNat * c.minW = x
  omega

/-- What a failed access makes of the window (R177). -/
theorem windowAfterFail_toNat (c : CfgBank) (nbf : BitVec 8) (cw : BitVec 16) :
    (windowAfterFail c nbf cw).toNat =
      (if c.fairLimit.toNat < nbf.toNat then
        (if c.csmaK.toNat ≠ 0 ∧ nbf.toNat % c.csmaK.toNat = 0 then
          max (cw.toNat - c.csmaA.toNat * c.minW) c.minW
        else cw.toNat)
      else min (2 * cw.toNat) c.maxW) := by
  unfold windowAfterFail
  split
  · split
    · exact shrink_toNat c cw
    · rfl
  · rw [BitVec.toNat_ofNat]
    have := maxW_le c
    omega

/-- What a drawn backoff leaves in the window (R173, R174). -/
theorem runBackoff_cw (k : CsmaBank) (c : CfgBank) (prio bcast : Bool) (rnd : BitVec 16) :
    (k.runBackoff c prio bcast rnd).cw = k.cw ∨ (k.runBackoff c prio bcast rnd).cw = BitVec.ofNat 16 c.maxW := by
  have e : (k.runBackoff c prio bcast rnd).cw = (k.beforeDraw c prio).cw := rfl
  rw [e]
  unfold CsmaBank.beforeDraw CsmaBank.updateStreak
  split
  · exact .inl rfl
  · dsimp only
    generalize (if k.cw.toNat = c.minW then sat8Inc k.minCwStreak else 0#8) = y
    split
    · exact .inr rfl
    · exact .inl rfl

theorem compensated_cw (k : CsmaBank) (pending nbf : Bool) : (k.compensated pending nbf).cw = k.cw := by
  unfold CsmaBank.compensated
  split <;> rfl

end Sys2Proof.Machine
end

