-- ==== Sys2Proof/Laws/Memory.lean ====
section
/-! SUPPORT. What the memory operations do, byte by byte, and that each keeps the canonical form. -/

namespace Sys2Proof.Machine

@[simp] theorem Memory.read_nil (a : Nat) : Memory.read [] a = unlistedByte := rfl

@[simp] theorem Memory.wf_nil : Memory.wf [] = true := rfl

@[simp] theorem Memory.within_nil (n : Nat) : Memory.within [] n = true := rfl

@[simp] theorem Memory.readRun_length (m : Memory) (a n : Nat) : (Memory.readRun m a n).length = n := by
  simp [Memory.readRun]

theorem Memory.readRun_getElem (m : Memory) (a n k : Nat) (h : k < (Memory.readRun m a n).length) :
    (Memory.readRun m a n)[k] = Memory.read m (a + k) := by
  simp [Memory.readRun]

/-! ## Looking up -/

theorem lookup_filter_of (m : Memory) (p : Nat → Bool) (x : Nat) (h : p x = true) :
    (m.filter (fun c => p c.1)).lookup x = m.lookup x := by
  induction m with
  | nil => rfl
  | cons c m ih =>
    obtain ⟨k, b⟩ := c
    by_cases hk : x = k
    · subst hk; simp [h]
    · by_cases hp : p k = true
      · simp [hp, List.lookup_cons, ih]
      · simp [hp, List.lookup_cons, ih, beq_eq_false_iff_ne.mpr hk]

theorem lookup_filter_none (m : Memory) (p : Nat → Bool) (x : Nat) (h : p x = false) :
    (m.filter (fun c => p c.1)).lookup x = none := by
  induction m with
  | nil => rfl
  | cons c m ih =>
    obtain ⟨k, b⟩ := c
    by_cases hp : p k = true
    · have hk : x ≠ k := fun e => by simp_all
      simp [hp, List.lookup_cons, ih, beq_eq_false_iff_ne.mpr hk]
    · simp [hp, ih]

theorem lookup_append (m n : Memory) (x : Nat) :
    (m ++ n).lookup x = (m.lookup x).or (n.lookup x) := by
  induction m with
  | nil => simp
  | cons c m ih =>
    obtain ⟨k, b⟩ := c
    by_cases hk : x = k
    · subst hk; simp
    · simp [List.lookup_cons, ih, beq_eq_false_iff_ne.mpr hk]

theorem lookup_cellsFrom_outside (bs : List Byte) (a x : Nat) (h : x < a ∨ a + bs.length ≤ x) :
    (Memory.cellsFrom a bs).lookup x = none := by
  induction bs generalizing a with
  | nil => rfl
  | cons b bs ih =>
    have hx : x ≠ a := by simp at h; omega
    have := ih (a + 1) (by simp at h; omega)
    unfold Memory.cellsFrom
    split
    · exact this
    · simp [List.lookup_cons, beq_eq_false_iff_ne.mpr hx, this]

theorem getD_lookup_cellsFrom (bs : List Byte) (a k : Nat) (h : k < bs.length) :
    ((Memory.cellsFrom a bs).lookup (a + k)).getD unlistedByte = bs[k] := by
  induction bs generalizing a k with
  | nil => simp at h
  | cons b bs ih =>
    cases k with
    | zero =>
      unfold Memory.cellsFrom
      split
      · next hb => simp [lookup_cellsFrom_outside bs (a + 1) a (Or.inl (by omega)), hb]
      · simp
    | succ k =>
      have e : a + (k + 1) = a + 1 + k := by omega
      have hk : a + 1 + k ≠ a := by omega
      have := ih (a + 1) k (by simpa using h)
      unfold Memory.cellsFrom
      split
      · simpa [e] using this
      · simpa [e, List.lookup_cons, beq_eq_false_iff_ne.mpr hk] using this

theorem Memory.read_eq (m : Memory) (x : Nat) : Memory.read m x = (m.lookup x).getD unlistedByte := by
  unfold Memory.read; cases m.lookup x <;> rfl

/-! ## Reading after writing -/

/-- A byte inside the written run reads as it was written. -/
theorem Memory.read_writeRun_inside (m : Memory) (a : Nat) (bs : List Byte) (k : Nat) (h : k < bs.length) :
    Memory.read (Memory.writeRun m a bs) (a + k) = bs[k] := by
  rw [Memory.read_eq, Memory.writeRun, lookup_append, lookup_append,
    lookup_filter_none m (fun x => decide (x < a)) (a + k) (by simp),
    lookup_filter_none m (fun x => decide (a + bs.length ≤ x)) (a + k) (by simp; omega)]
  simpa using getD_lookup_cellsFrom bs a k h

/-- A byte outside the written run reads as before. -/
theorem Memory.read_writeRun_outside (m : Memory) (a : Nat) (bs : List Byte) (x : Nat)
    (h : x < a ∨ a + bs.length ≤ x) : Memory.read (Memory.writeRun m a bs) x = Memory.read m x := by
  rw [Memory.read_eq, Memory.read_eq, Memory.writeRun, lookup_append, lookup_append,
    lookup_cellsFrom_outside bs a x h]
  by_cases hx : x < a
  · rw [lookup_filter_of m (fun x => decide (x < a)) x (by simpa using hx),
      lookup_filter_none m (fun x => decide (a + bs.length ≤ x)) x (by simp; omega)]
    simp
  · rw [lookup_filter_none m (fun x => decide (x < a)) x (by simpa using hx),
      lookup_filter_of m (fun x => decide (a + bs.length ≤ x)) x (by simp; omega)]
    simp

theorem Memory.read_write_same (m : Memory) (a : Nat) (b : Byte) : Memory.read (Memory.write m a b) a = b :=
  Memory.read_writeRun_inside m a [b] 0 (by simp)

theorem Memory.read_write_other (m : Memory) (a x : Nat) (b : Byte) (h : x ≠ a) :
    Memory.read (Memory.write m a b) x = Memory.read m x :=
  Memory.read_writeRun_outside m a [b] x (by simp; omega)

/-- The run just written reads back whole. -/
theorem Memory.readRun_writeRun (m : Memory) (a : Nat) (bs : List Byte) :
    Memory.readRun (Memory.writeRun m a bs) a bs.length = bs := by
  apply List.ext_getElem (by simp)
  intro k h _
  rw [Memory.readRun_getElem, Memory.read_writeRun_inside]

/-! ## The canonical form -/

theorem mem_cellsFrom (bs : List Byte) (a : Nat) (c : Host.Cell) (h : c ∈ Memory.cellsFrom a bs) :
    a ≤ c.1 ∧ c.1 < a + bs.length ∧ c.2 ≠ unlistedByte := by
  induction bs generalizing a with
  | nil => simp [Memory.cellsFrom] at h
  | cons b bs ih =>
    unfold Memory.cellsFrom at h
    split at h
    · obtain ⟨h1, h2, h3⟩ := ih (a + 1) h
      refine ⟨by omega, ?_, h3⟩
      simp only [List.length_cons]; omega
    · next hb =>
      rcases List.mem_cons.mp h with rfl | h
      · simp [hb]
      · obtain ⟨h1, h2, h3⟩ := ih (a + 1) h
        simp [h3]; omega

theorem pairwise_cellsFrom (bs : List Byte) (a : Nat) :
    (Memory.cellsFrom a bs).Pairwise (fun c d => c.1 < d.1) := by
  induction bs generalizing a with
  | nil => exact List.Pairwise.nil
  | cons b bs ih =>
    unfold Memory.cellsFrom
    split
    · exact ih (a + 1)
    · refine List.Pairwise.cons (fun d hd => ?_) (ih (a + 1))
      have := mem_cellsFrom bs (a + 1) d hd
      show a < d.1
      omega

theorem Memory.wf_iff (m : Memory) :
    Memory.wf m = true ↔ m.Pairwise (fun c d => c.1 < d.1) ∧ ∀ c ∈ m, c.2 ≠ unlistedByte := by
  simp [Memory.wf]

theorem Memory.within_iff (m : Memory) (n : Nat) : Memory.within m n = true ↔ ∀ c ∈ m, c.1 < n := by
  simp [Memory.within]

/-- A write keeps the canonical form. -/
theorem Memory.wf_writeRun (m : Memory) (a : Nat) (bs : List Byte) (h : Memory.wf m = true) :
    Memory.wf (Memory.writeRun m a bs) = true := by
  rw [Memory.wf_iff] at h ⊢
  obtain ⟨hp, hn⟩ := h
  constructor
  · unfold Memory.writeRun
    rw [List.pairwise_append, List.pairwise_append]
    refine ⟨⟨hp.filter _, pairwise_cellsFrom bs a, ?_⟩, hp.filter _, ?_⟩
    · intro c hc d hd
      have := mem_cellsFrom bs a d hd
      have hc' := (List.mem_filter.mp hc).2
      simp at hc'
      omega
    · intro c hc d hd
      have hd' := (List.mem_filter.mp hd).2
      simp at hd'
      rcases List.mem_append.mp hc with hc | hc
      · have hc' := (List.mem_filter.mp hc).2
        simp at hc'
        omega
      · have := mem_cellsFrom bs a c hc
        omega
  · intro c hc
    unfold Memory.writeRun at hc
    rcases List.mem_append.mp hc with hc | hc
    · rcases List.mem_append.mp hc with hc | hc
      · exact hn c (List.mem_filter.mp hc).1
      · exact (mem_cellsFrom bs a c hc).2.2
    · exact hn c (List.mem_filter.mp hc).1

/-- A write inside a space stays inside it. -/
theorem Memory.within_writeRun (m : Memory) (a n : Nat) (bs : List Byte) (h : Memory.within m n = true)
    (hb : a + bs.length ≤ n) : Memory.within (Memory.writeRun m a bs) n = true := by
  rw [Memory.within_iff] at h ⊢
  intro c hc
  unfold Memory.writeRun at hc
  rcases List.mem_append.mp hc with hc | hc
  · rcases List.mem_append.mp hc with hc | hc
    · exact h c (List.mem_filter.mp hc).1
    · have := mem_cellsFrom bs a c hc; omega
  · exact h c (List.mem_filter.mp hc).1

theorem Memory.wf_write (m : Memory) (a : Nat) (b : Byte) (h : Memory.wf m = true) :
    Memory.wf (Memory.write m a b) = true := Memory.wf_writeRun m a [b] h

theorem Memory.within_write (m : Memory) (a n : Nat) (b : Byte) (h : Memory.within m n = true) (ha : a < n) :
    Memory.within (Memory.write m a b) n = true := Memory.within_writeRun m a n [b] h (by simp; omega)

/-- The memories of the state after reset have the canonical form. -/
theorem reset_memory_wf :
    Memory.wf State.reset.txbuf = true ∧ Memory.wf State.reset.rxbuf = true ∧ Memory.wf State.reset.reqmem = true :=
  ⟨rfl, rfl, rfl⟩

end Sys2Proof.Machine
end

