-- ==== Sys2Proof/Laws/Codec.lean ====
section
/-! SUPPORT. Byte order, lengths of the parts of a frame, and what `encode` and `decode` can answer. -/

namespace Sys2Proof.Machine

/-! ## Byte order -/

@[simp] theorem bytesLe_length {w : Nat} (v : BitVec w) (n : Nat) : (bytesLe v n).length = n := by simp [bytesLe]

theorem leNat_lt (bs : List Byte) : leNat bs < 256 ^ bs.length := by
  induction bs with
  | nil => simp [leNat]
  | cons b bs ih =>
    have := b.isLt
    simp only [leNat, List.length_cons, Nat.pow_succ]
    omega

theorem toNat_extractByte {w : Nat} (v : BitVec w) (k : Nat) :
    (v.extractLsb' (8 * k) 8).toNat = v.toNat / 2 ^ (8 * k) % 256 := by
  simp [BitVec.extractLsb', Nat.shiftRight_eq_div_pow]

theorem leNat_bytes_from (v n a : Nat) :
    leNat ((List.range' a n).map fun k => BitVec.ofNat 8 (v / 2 ^ (8 * k))) = v / 2 ^ (8 * a) % 256 ^ n := by
  induction n generalizing a with
  | zero => simp [leNat, Nat.mod_one]
  | succ n ih =>
    rw [List.range'_succ, List.map_cons, leNat, ih]
    have h1 : v / 2 ^ (8 * (a + 1)) = v / 2 ^ (8 * a) / 256 := by
      rw [Nat.div_div_eq_div_mul]
      congr 1
      rw [show 8 * (a + 1) = 8 * a + 8 by ring, Nat.pow_add]
    rw [h1, BitVec.toNat_ofNat]
    generalize v / 2 ^ (8 * a) = x
    rw [show 256 ^ (n + 1) = 256 * 256 ^ n by ring, Nat.mod_mul]

/-- The number the low `n` bytes of a value stand for. -/
theorem leNat_bytesLe {w : Nat} (v : BitVec w) (n : Nat) : leNat (bytesLe v n) = v.toNat % 256 ^ n := by
  have h : bytesLe v n = (List.range' 0 n).map fun k => BitVec.ofNat 8 (v.toNat / 2 ^ (8 * k)) := by
    unfold bytesLe
    rw [List.range_eq_range']
    apply List.map_congr_left
    intro k _
    apply BitVec.eq_of_toNat_eq
    rw [toNat_extractByte]
    simp
  rw [h, leNat_bytes_from]
  simp

/-- A value that fits in `n` bytes is read back from them. -/
theorem ofNat_leNat_bytesLe (w : Nat) (v : BitVec w) (n : Nat) (h : w ≤ 8 * n) :
    BitVec.ofNat w (leNat (bytesLe v n)) = v := by
  rw [leNat_bytesLe]
  apply BitVec.eq_of_toNat_eq
  rw [BitVec.toNat_ofNat]
  have h1 : v.toNat < 2 ^ w := v.isLt
  have h2 : (256 : Nat) ^ n = 2 ^ (8 * n) := by rw [Nat.pow_mul]
  have h3 : 2 ^ w ≤ 2 ^ (8 * n) := Nat.pow_le_pow_right (by omega) h
  rw [h2, Nat.mod_eq_of_lt (show v.toNat < 2 ^ (8 * n) by omega), Nat.mod_eq_of_lt (by omega)]

/-- Reading the middle of three runs. -/
theorem leAt_mid (w : Nat) (pre mid post : List Byte) (p n : Nat) (hp : pre.length = p) (hn : mid.length = n) :
    leAt w (pre ++ (mid ++ post)) p n = BitVec.ofNat w (leNat mid) := by
  unfold leAt
  subst hp
  subst hn
  simp

theorem toNat_concat {a b : Nat} (x : BitVec a) (y : BitVec b) : (x ++ y).toNat = x.toNat * 2 ^ b + y.toNat := by
  rw [BitVec.toNat_append, Nat.shiftLeft_eq, Nat.mul_comm, Nat.two_pow_add_eq_or_of_lt y.isLt]

/-! ## Control words -/

theorem addrModeOf_bits (m : AddrMode) : addrModeOf (addrModeBits m) = m := by cases m <;> rfl

theorem addrModeBits_of (b : BitVec 2) : addrModeBits (addrModeOf b) = b := by
  revert b
  decide

theorem modOf_bits (m : ModType) : modOf (modBits m) = some m := by cases m <;> rfl

theorem fcImage_toNat (f : Frame) :
    (fcImage f).toNat =
      f.ftype.toNat + 8 * f.sec.toNat + 16 * f.pending.toNat + 32 * f.ackReq.toNat + 64 * f.panComp.toNat +
        1024 * (addrModeBits f.dstMode).toNat + 4096 * f.version.toNat +
          16384 * (addrModeBits f.srcMode).toNat := by
  unfold fcImage
  simp only [toNat_concat, BitVec.toNat_ofBool, BitVec.toNat_ofNat]
  omega

theorem scImage_toNat (f : Frame) :
    (scImage f).toNat =
      f.segLen.toNat + 1024 * f.segNum.toNat + 65536 * f.lsf.toNat + 131072 * f.cap.toNat +
        262144 * f.tmr.toNat := by
  unfold scImage
  simp only [toNat_concat, BitVec.toNat_ofBool]
  omega

/-! ## Lengths -/

theorem headerBytes_length (f : Frame) : (headerBytes f).length = hdrLen f := by
  unfold headerBytes hdrLen secOffset srcAddrOffset srcOffset secLen
  simp only [List.length_append, bytesLe_length]
  cases f.dstMode <;> cases f.srcMode <;> cases f.panComp <;> by_cases h : secCarried f = true <;>
    simp [segControlBytes, dstPanBytes, addrBytes, srcPanBytes, dstFieldLen, srcPanLen, addrLen, h]

theorem six_le_hdrLen (f : Frame) : 6 ≤ hdrLen f := by
  unfold hdrLen secOffset srcAddrOffset srcOffset
  omega

theorem hdrLen_le (f : Frame) : hdrLen f ≤ 32 := by
  unfold hdrLen secOffset srcAddrOffset srcOffset secLen
  cases f.dstMode <;> cases f.srcMode <;> cases f.panComp <;> by_cases h : secCarried f = true <;>
    simp [dstFieldLen, srcPanLen, addrLen, h]

theorem coveredBytes_length (f : Frame) (total : Nat) (hp : f.payload.length = f.segLen.toNat)
    (h : expected f ≤ total) : (coveredBytes f total).length = total - 2 := by
  unfold coveredBytes expected at *
  simp only [List.length_append, List.length_replicate, headerBytes_length, hp]
  omega

/-! ## The check sequence -/

theorem crc16_snoc (b : List Byte) (x : Byte) : crc16 (b ++ [x]) = crcByte (crc16 b) x := by
  simp [crc16, Config.crcXorOut]

theorem fcsOf_append (m : List Byte) : fcsOf (m ++ fcsBytes m) = crc16 m := by
  unfold fcsOf leAt fcsBytes
  have : (m ++ bytesLe (crc16 m) 2).length - 2 = m.length := by simp
  rw [this, List.drop_left, List.take_of_length_le (by simp), leNat_bytesLe]
  apply BitVec.eq_of_toNat_eq
  simp
  omega

/-! ## What `encode` and `decode` can answer -/

theorem encodeFrame_short (f : Frame) (total : Nat) (h : total < expected f) : encodeFrame f total = none := by
  simp [encodeFrame, h]

theorem encodeFrame_cases (f : Frame) (total : Nat) (b : List Byte) (h : encodeFrame f total = some b) :
    expected f ≤ total ∧ b = coveredBytes f total ++ fcsBytes (coveredBytes f total) := by
  unfold encodeFrame at h
  split at h
  · simp at h
  · simp at h
    exact ⟨by omega, h.symm⟩

/-- An encoded frame has the length asked for (R138). -/
theorem encodeFrame_length (f : Frame) (total : Nat) (hp : f.payload.length = f.segLen.toNat)
    (he : expected f ≤ total) : ∃ b, encodeFrame f total = some b ∧ b.length = total := by
  refine ⟨_, by rw [encodeFrame, if_neg (by omega)], ?_⟩
  rw [List.length_append, coveredBytes_length f total hp he, fcsBytes, bytesLe_length]
  have := six_le_hdrLen f
  unfold expected at he
  omega

/-- What an accepted frame has passed, and what it is (R129). -/
theorem decodeFrame_ok (b : List Byte) (f : Frame) (pad : Nat) (h : decodeFrame b = .ok f pad) :
    8 ≤ b.length ∧ crc16 (b.take (b.length - 2)) = fcsOf b ∧ (decodeFixed b).ftype.toNat < 4 ∧
      (decodeFixed b).pending = false ∧ (decodeFixed b).dstMode ≠ .reserved ∧
      (decodeFixed b).srcMode ≠ .reserved ∧ expected (decodeFixed b) ≤ b.length ∧
      f = withPayload (decodeVariable (decodeFixed b) b) b ∧ pad = b.length - expected (decodeFixed b) := by
  unfold decodeFrame at h
  split at h; · simp at h
  split at h; · simp at h
  simp only [] at h
  split at h; · simp at h
  split at h; · simp at h
  split at h; · simp at h
  split at h; · simp at h
  split at h; · simp at h
  rename_i h1 h2 h3 h4 h5 h6 h7
  simp only [DecodeResult.ok.injEq] at h
  rw [not_or] at h5
  exact ⟨Nat.not_lt.1 h1, not_not.1 h2, by omega, by simpa using h4, h5.1, h5.2, by omega, h.1.symm, h.2.symm⟩

/-- What a reception or a `DECODE` records (R131). -/
theorem countDecode_cases (s : State) (n : Nat) :
    (∃ code, s.rxDecode n = .reject code ∧ s.countDecode n = { s with cnt := s.cnt.record code }) ∨
      ∃ f pad, s.rxDecode n = .ok f pad ∧
        s.countDecode n = { s with rxfr := RxBank.ofDecode f pad (Memory.readRun s.rxbuf 0 n) } := by
  unfold State.countDecode
  rcases h : s.rxDecode n with ⟨f, pad⟩ | code
  · exact .inr ⟨f, pad, rfl, rfl⟩
  · exact .inl ⟨code, rfl, rfl⟩

/-! ## The record `ENCODE` encodes -/

theorem addrModeBits_injective {a b : AddrMode} (h : addrModeBits a = addrModeBits b) : a = b := by
  rw [← addrModeOf_bits a, h, addrModeOf_bits]

/-- Two byte strings of one length that agree at every offset are one. -/
theorem bytes_ext {a b : List Byte} (hl : a.length = b.length) (h : ∀ k, k < a.length → byteAt a k = byteAt b k) :
    a = b := by
  apply List.ext_getElem hl
  intro k h1 h2
  have := h k h1
  rwa [byteAt, byteAt, List.getD_eq_getElem _ _ h1, List.getD_eq_getElem _ _ h2] at this

/-- Payload byte `k` of the encoded record is `REQMEM[off + k]` (R140). -/
theorem encodeSource_payload (s : State) (off k : Nat) (h : k < (s.encodeSource off).segLen.toNat) :
    byteAt (s.encodeSource off).payload k = Memory.read s.reqmem (off + k) := by
  have hk : k < (Memory.readRun s.reqmem off (s.encodeSource off).segLen.toNat).length := by simpa using h
  show byteAt (Memory.readRun s.reqmem off (s.encodeSource off).segLen.toNat) k = _
  rw [byteAt, List.getD_eq_getElem _ _ hk, Memory.readRun_getElem]

end Sys2Proof.Machine
end

