-- ==== Sys2Proof/Laws/Segment.lean ====
section
/-! SUPPORT. What `nextSeg()` can do: it fails exactly on a `SegFault`, else it stores one encoded frame. -/

namespace Sys2Proof.Machine

theorem maxSeg_le (s : State) : s.maxSeg ≤ 1023 := by
  unfold State.maxSeg Config.maxSegLen
  omega

theorem nextSegLen_le (s : State) : s.nextSegLen ≤ 1023 := by
  have := maxSeg_le s
  unfold State.nextSegLen
  omega

theorem nextSegFrame_hdrLen (s : State) : hdrLen s.nextSegFrame = hdrLen s.segHeader := rfl

theorem nextSegFrame_segLen (s : State) : s.nextSegFrame.segLen.toNat = s.nextSegLen := by
  show (BitVec.ofNat 10 s.nextSegLen).toNat = _
  rw [BitVec.toNat_ofNat]
  have := nextSegLen_le s
  omega

theorem nextSegFrame_expected (s : State) : expected s.nextSegFrame = s.nextSegExpected := by
  unfold expected State.nextSegExpected
  rw [nextSegFrame_hdrLen, nextSegFrame_segLen]

theorem nextSegFrame_payload_length (s : State) : s.nextSegFrame.payload.length = s.nextSegFrame.segLen.toNat := by
  rw [nextSegFrame_segLen]
  exact Memory.readRun_length _ _ _

theorem nextSegTotal_eq (s : State) (rsPad : SnapIn → Nat → Nat) :
    s.nextSegTotal rsPad =
      overhead s.segHeader + s.nextSegLen + rsPad s.snap.snapIn (overhead s.segHeader + s.nextSegLen) := by
  have : s.nextSegExpected = overhead s.segHeader + s.nextSegLen := by
    unfold State.nextSegExpected overhead
    omega
  unfold State.nextSegTotal
  rw [this]

/-- Segment 0 has the largest overhead of a request: only there the security header is carried (R89, R197). -/
theorem overhead_segNum_le (f : Frame) (n : BitVec 6) :
    overhead { f with segNum := n } ≤ overhead { f with segNum := 0#6 } := by
  have h : secLen { f with segNum := n } ≤ secLen { f with segNum := 0#6 } := by
    unfold secLen secCarried
    cases f.sec <;> by_cases hn : n = 0#6 <;> simp [hn]
  exact Nat.add_le_add_right (Nat.add_le_add_left h _) 2

/-- A segment of a snapshot with room for payload fills `SNAP_MAX_PHY` at most (R191, R196). -/
theorem overhead_add_nextSegLen_le (s : State) (h : overhead s.segHeader < s.snap.maxPhy.toNat) :
    overhead s.segHeader + s.nextSegLen ≤ s.snap.maxPhy.toNat := by
  unfold State.nextSegLen State.maxSeg
  omega

/-- No `SegFault`: the three conditions of R195 fail. -/
theorem segFault_eq_false (s : State) (rsPad : SnapIn → Nat → Nat) :
    s.segFault rsPad = false ↔
      s.sess.sentOffset.toNat ≤ s.txd.len.toNat ∧ overhead s.segHeader < s.snap.maxPhy.toNat ∧
        s.nextSegTotal rsPad ≤ 2048 := by
  unfold State.segFault Config.frameBufLen
  rw [Bool.or_eq_false_iff, Bool.or_eq_false_iff, decide_eq_false_iff_not, decide_eq_false_iff_not,
    decide_eq_false_iff_not, not_lt, not_le, not_lt, and_assoc]

theorem nextSegWith_segFault (s : State) (rsPad : SnapIn → Nat → Nat) (h : s.segFault rsPad = true) :
    s.nextSegWith rsPad = none := by
  simp [State.nextSegWith, h]

/-- Without a `SegFault` a segment is built: the encoded frame has the total length of R194. -/
theorem nextSegWith_built (s : State) (rsPad : SnapIn → Nat → Nat) (h : s.segFault rsPad = false) :
    ∃ b, encodeFrame s.nextSegFrame (s.nextSegTotal rsPad) = some b ∧ b.length = s.nextSegTotal rsPad ∧
      s.nextSegWith rsPad = some (s.withSegment b) := by
  obtain ⟨b, h1, h2⟩ := encodeFrame_length s.nextSegFrame (s.nextSegTotal rsPad) (nextSegFrame_payload_length s)
    (by rw [nextSegFrame_expected]; unfold State.nextSegTotal; omega)
  exact ⟨b, h1, h2, by simp [State.nextSegWith, h, h1]⟩

/-- Everything `nextSeg()` does when it does not fail. -/
theorem nextSegWith_cases (s t : State) (rsPad : SnapIn → Nat → Nat) (h : s.nextSegWith rsPad = some t) :
    s.segFault rsPad = false ∧
      ∃ b, encodeFrame s.nextSegFrame (s.nextSegTotal rsPad) = some b ∧ b.length = s.nextSegTotal rsPad ∧
        b.length ≤ 2048 ∧ t = s.withSegment b := by
  rcases hf : s.segFault rsPad
  · obtain ⟨b, h1, h2, h3⟩ := nextSegWith_built s rsPad hf
    rw [h3] at h
    exact ⟨rfl, b, h1, h2, by rw [h2]; exact ((segFault_eq_false s rsPad).1 hf).2.2, (Option.some.inj h).symm⟩
  · rw [nextSegWith_segFault s rsPad hf] at h
    cases h

/-- What a built segment writes, field by field (R193, R196). -/
theorem withSegment_eq (s : State) (b : List Byte) :
    s.withSegment b =
      { s with
        txbuf := Memory.writeRun s.txbuf 0 b
        txfr := FrameBank.ofFrame s.nextSegFrame
        sess :=
          { s.sess with
            txLen := BitVec.ofNat 12 b.length
            txFcs := fcsOf b
            maxSegPayload := BitVec.ofNat 10 s.maxSeg
            segLen := BitVec.ofNat 10 s.nextSegLen }
        mac := { s.mac with moreFrag := !s.nextSegLast } } := rfl

end Sys2Proof.Machine
end

