-- ==== Sys2Proof/Laws/Mac.lean ====
section
/-! SUPPORT. What one `POLL` can do: the occupancy transition, and one transition of the transmit machine. -/

namespace Sys2Proof.Machine

theorem ackWait_toNat (c : CfgBank) :
    c.ackWait.toNat = (c.rifsTime.toNat + c.ackTime.toNat + c.cifsTime.toNat) % 2 ^ 32 := by
  unfold CfgBank.ackWait
  simp

/-! ## The occupancy machine -/

/-- The occupancy transition writes the tag and its entry time alone. -/
theorem occTick_shape (s : State) :
    ∃ o w, s.occTick = { s with mac := { s.mac with occ := o, occEntered := w } } := by
  unfold State.occTick
  split
  · exact ⟨_, _, rfl⟩
  · split <;> exact ⟨_, _, rfl⟩

/-- In `CP` after the transition the elapsed time is at most `CP_TIME`, so that the subtraction of R234 is exact. -/
theorem occTick_cp_elapsed (s : State) (h : s.occTick.mac.occ = .cp) :
    (elapsed s.now s.occTick.mac.occEntered).toNat ≤ s.cfg.cpTime.toNat := by
  have hd : s.occTick =
      (match timedExit s.cfg s.mac.occ with
        | none => s
        | some (d, o) => if d ≤ elapsed s.now s.mac.occEntered then s.enterOcc o else s) := rfl
  rcases hx : timedExit s.cfg s.mac.occ with _ | ⟨d, o⟩
  · rw [hx] at hd
    dsimp only at hd
    rw [hd] at h
    rw [h] at hx
    cases hx
  · rw [hx] at hd
    dsimp only at hd
    by_cases hle : d ≤ elapsed s.now s.mac.occEntered
    · rw [if_pos hle] at hd
      rw [hd]
      simp [State.enterOcc, elapsed]
    · rw [if_neg hle] at hd
      rw [hd] at h ⊢
      rw [h] at hx
      cases hx
      rw [BitVec.le_def] at hle
      omega

/-! ## POLL -/

/-- A `POLL` is the transmit transition after the occupancy transition, answered with `STATE`. -/
theorem poll_next (s t : State) (h : txTick s.occTick = .next t) : exec .poll s = .next t.pollAnswer := by
  show execPoll s = _
  simp only [execPoll, h]

theorem poll_cases (s t : State) (h : exec .poll s = .next t) :
    ∃ u, txTick s.occTick = .next u ∧ t = u.pollAnswer := by
  have h : execPoll s = .next t := h
  rw [execPoll] at h
  rcases hx : txTick s.occTick with u | u | u <;> rw [hx] at h <;> dsimp only at h
  · exact ⟨u, rfl, (Host.Outcome.next.inj h).symm⟩
  · cases h
  · cases h

/-! ## Building a segment -/

/-- `w` is `s` with one segment built: the frame `b` fits `TXBUF`. -/
def Built (s w : State) : Prop := ∃ b : List Byte, b.length ≤ 2048 ∧ w = s.withSegment b

theorem built_of_nextSeg (s w : State) (h : s.nextSeg = some w) : Built s w := by
  obtain ⟨_, b, _, _, h3, h4⟩ := nextSegWith_cases s w _ h
  exact ⟨b, h3, h4⟩

theorem buildThen_cases (s : State) (f : State → State) :
    s.buildThen f = s.conclude .denied ∨ ∃ w, Built s w ∧ s.buildThen f = f w := by
  unfold State.buildThen
  rcases h : s.nextSeg with _ | w
  · exact .inl rfl
  · exact .inr ⟨w, built_of_nextSeg s w h, rfl⟩

/-- The fallback of `BIG_FAIL` writes the snapshot and announces it, or does nothing. -/
theorem applyFallback_shape (s : State) :
    s.applyFallback = s ∨ ∃ b : SnapBank, s.applyFallback = ({ s with snap := b } : State).emit b.setParams := by
  unfold State.applyFallback
  dsimp only
  split
  · exact .inr ⟨_, rfl⟩
  · exact .inl rfl

/-! ## The transmit machine, sub-state by sub-state -/

theorem tickStart_cases (s t : State) (h : tickStart s = .next t) :
    ∃ b v, s.loadedSnap = some b ∧
      v = (({ s with snap := b } : State).setRetries s.cfg.maxFrameRetries).emit b.setParams ∧
      (t = v.conclude .denied ∨ ∃ w, Built v w ∧ t = w.setTx .csmaCa) := by
  unfold tickStart at h
  rcases hl : s.loadedSnap with _ | b <;> rw [hl] at h
  · cases h
  · refine ⟨b, _, rfl, rfl, ?_⟩
    have h := Host.Outcome.next.inj h
    rcases buildThen_cases ((({ s with snap := b } : State).setRetries s.cfg.maxFrameRetries).emit b.setParams)
      (fun t => t.setTx .csmaCa) with hb | ⟨w, hw, hb⟩
    · exact .inl (by rw [← h, hb])
    · exact .inr ⟨w, hw, by rw [← h, hb]⟩

theorem tickWaitSend_cases (s t : State) (h : tickWaitSend s = .next t) :
    (s.sendTime = none ∧ t = s) ∨
      ∃ time sense, s.sendTime = some (time, sense) ∧
        t = ((s.emit (s.txReqEffect time sense)).setImmediate false).setTx .waitConfirm := by
  unfold tickWaitSend at h
  rcases hl : s.sendTime with _ | ⟨time, sense⟩ <;> rw [hl] at h <;> dsimp only at h
  · cases h
    exact .inl ⟨rfl, rfl⟩
  · split at h
    · cases h
    · cases h
      exact .inr ⟨time, sense, rfl, rfl⟩

theorem tickSendOk_cases (s : State) :
    tickSendOk s = s.segDone.conclude .denied ∨ tickSendOk s = s.segDone.nextIndex.conclude .denied ∨
      (∃ w, Built s.segDone.nextIndex w ∧ tickSendOk s = (w.setImmediate true).setTx .waitSend) ∨
      tickSendOk s = s.segDone.accessOk.conclude .success := by
  unfold tickSendOk
  dsimp only
  split
  · split
    · exact .inl rfl
    · rcases buildThen_cases s.segDone.nextIndex (fun t => (t.setImmediate true).setTx .waitSend) with
        hb | ⟨w, hw, hb⟩
      · exact .inr (.inl hb)
      · exact .inr (.inr (.inl ⟨w, hw, hb⟩))
  · exact .inr (.inr (.inr rfl))

theorem tickBigFail_cases (s : State) :
    tickBigFail s = s.conclude .noAck ∨
      ∃ v, v = (s.setRetries (s.sess.retriesLeft - 1#8)).applyFallback ∧
        (tickBigFail s = v.conclude .denied ∨
          ∃ w, Built v w ∧ tickBigFail s = (w.setImmediate false).setTx .csmaCa) := by
  unfold tickBigFail
  split
  · exact .inl rfl
  · exact .inr ⟨_, rfl, buildThen_cases _ _⟩

/-- `WAIT_SEND` sends in a `POLL` at once, in `IDLE`, or in `CP` with the lead time left, and only then (R232, R234). -/
theorem sendTime_occTick_ne_none (s : State) :
    s.occTick.sendTime ≠ none ↔
      s.mac.immediate = true ∨ s.occTick.mac.occ = .idle ∨
        s.occTick.mac.occ = .cp ∧
          s.cfg.leadTime.toNat + (elapsed s.now s.occTick.mac.occEntered).toNat ≤ s.cfg.cpTime.toNat := by
  have hc := occTick_cp_elapsed s
  obtain ⟨o, w, ho⟩ := occTick_shape s
  rw [ho] at hc ⊢
  dsimp only at hc ⊢
  unfold State.sendTime
  dsimp only
  by_cases hi : s.mac.immediate = true
  · simp [hi]
  · by_cases hx : o = .idle
    · simp [hi, hx]
    · by_cases hp : o = .cp
      · have hl := hc hp
        have : s.cfg.leadTime.toNat ≤ s.cfg.cpTime.toNat - (elapsed s.now w).toNat ↔
            s.cfg.leadTime.toNat + (elapsed s.now w).toNat ≤ s.cfg.cpTime.toNat := by omega
        simp [hi, hp, this]
      · simp [hi, hx, hp]

/-- The transmit machine stops in no state whose descriptor was accepted and which sends, if it sends, an on-air frame
that fits `TXBUF`. -/
theorem txTick_next (s : State) (h1 : s.mac.tx = .waitSend → s.sendTime ≠ none → s.sess.txLen.toNat ≤ 2048)
    (h2 : s.mac.tx = .start → modOf s.txd.modTypeBits ≠ none) : ∃ u, txTick s = .next u := by
  unfold txTick
  rcases hx : s.mac.tx <;> dsimp only
  all_goals first
    | exact ⟨_, rfl⟩
    | skip
  · have hu := h2 hx
    unfold tickStart State.loadedSnap
    rcases hm : modOf s.txd.modTypeBits with _ | m
    · exact absurd hm hu
    · exact ⟨_, rfl⟩
  · have hl := h1 hx
    unfold tickWaitSend
    rcases hs : s.sendTime with _ | ⟨a, b⟩
    · exact ⟨_, rfl⟩
    · dsimp only
      rw [if_neg (show ¬ Config.frameBufLen < s.sess.txLen.toNat from Nat.not_lt.2 (hl (by simp [hs])))]
      exact ⟨_, rfl⟩

/-- Where `WAIT_SEND` stops: it would send an on-air frame longer than `TXBUF` (log entry 9). -/
theorem tickWaitSend_stops (s : State) (h1 : s.sendTime ≠ none) (h2 : 2048 < s.sess.txLen.toNat) :
    tickWaitSend s = .fault .txLenBeyondTxbuf := by
  unfold tickWaitSend
  rcases hs : s.sendTime with _ | ⟨a, b⟩
  · exact absurd hs h1
  · exact if_pos h2

end Sys2Proof.Machine
end

