-- ==== Sys2Proof/Laws/Registers.lean ====
section
/-! SUPPORT. Register numbers name registers one to one. -/

namespace Sys2Proof.Machine

theorem regOf_regNum (r : Reg) : regOf (regNum r) = some r := by
  rcases r with r | r | r | r | r | r | r | r <;> cases r <;> decide +kernel

theorem regNum_of_regOf (n : BitVec 8) (r : Reg) (h : regOf n = some r) : regNum r = n := by
  have := List.find?_some h
  simpa using this

theorem regOf_eq_none (n : BitVec 8) (h : ∀ r, regNum r ≠ n) : regOf n = none := by
  rcases hr : regOf n with _ | r
  · rfl
  · exact absurd (regNum_of_regOf n r hr) (h r)

end Sys2Proof.Machine
end

