-- ==== Sys2Proof/Laws/Exec.lean ====
section
/-! SUPPORT. Everything an operation and a step can do: `exec_cases` and `step_cases`. -/

namespace Sys2Proof.Machine

/-- What an operation that is not refused makes of a state. -/
def Does (i : Instr) (s t : State) : Prop :=
  match i with
  | .reset clr => t = (s.cleared clr).respond .ok 0#24
  | .get n => t = (s.emit (s.getConfirm n)).respond .ok 0#24
  | .set n v =>
    s.mac.tx = .none ∧
      ∃ r, regNum r = n ∧ regWritable r = true ∧ setRefused s.cfg r v = false ∧
        t = (s.writeReg r v).respond .ok 0#24
  | .txreq =>
    s.mac.tx = .none ∧ s.txd.unacceptable = false ∧ t = s.acceptRequest.respond .ok (s.sess.dsn.setWidth 24)
  | .poll => ∃ u, txTick s.occTick = .next u ∧ t = u.pollAnswer
  | .txcfm status time => t = (s.txConfirmed status time).respond .ok 0#24
  | .rxind len ack time => t = (s.countDecode len.toNat).received (s.rxDecode len.toNat) ack time
  | .ackind d sub fcs => t = (s.acknowledged d sub fcs).respond .ok (if s.ackMine fcs then 1#24 else 0#24)
  | .crc16 _ => s.mac.tx = .none ∧ ∃ r, t = s.respond .ok r
  | .hdrlen => s.mac.tx = .none ∧ ∃ r, t = s.respond .ok r
  | .decode len => s.mac.tx = .none ∧ ∃ r, t = (s.countDecode len.toNat).respond .ok r
  | .encode _ _ => s.mac.tx = .none ∧ ∃ b r, b.length ≤ 2048 ∧ t = (s.storeFrame b).respond .ok r
  | .phycalc _ => s.mac.tx = .none ∧ ∃ b r, t = ({ s with snap := b } : State).respond .ok r
  | .backoff p b =>
    s.mac.tx = .none ∧ ∃ r, t = ({ s with csma := s.csma.runBackoff s.cfg p b s.rnd } : State).respond .ok r
  | .accfail p =>
    s.mac.tx = .none ∧ ∃ r, t = ({ s with csma := s.csma.accessFail s.cfg p } : State).respond .ok r
  | .accok => s.mac.tx = .none ∧ ∃ r, t = ({ s with csma := s.csma.accessOk s.cfg } : State).respond .ok r
  | .compensate => s.mac.tx = .none ∧ ∃ r, t = s.compensate.respond .ok r
  | .nextseg seg off => s.mac.tx = .none ∧ ∃ w, Built (s.seek seg off) w ∧ t = w.respond .ok w.segResult
  | .segdone => s.mac.tx = .none ∧ ∃ r, t = s.segDone.respond .ok r
  | .fallback _ => s.mac.tx = .none ∧ ∃ b r, t = ({ s with snap := b } : State).respond .ok r

/-- An operation changes nothing but the response, with a code other than `OK`, or does what `Does` says. -/
theorem exec_cases (i : Instr) (s t : State) (h : exec i s = .next t) :
    (∃ c, c ≠ .ok ∧ t = s.respond c 0#24) ∨ Does i s t := by
  cases i with
  | reset clr => exact .inr (Host.Outcome.next.inj h).symm
  | get n => exact .inr (Host.Outcome.next.inj h).symm
  | txcfm status time => exact .inr (Host.Outcome.next.inj h).symm
  | ackind d sub fcs => exact .inr (Host.Outcome.next.inj h).symm
  | poll => exact .inr (poll_cases s t h)
  | set n v =>
    have h : execSet n v s = .next t := h
    unfold execSet at h
    rcases hr : regOf n with _ | r <;> rw [hr] at h <;> dsimp only at h
    · exact .inl ⟨_, by decide, (Host.Outcome.next.inj h).symm⟩
    · split at h
      · exact .inl ⟨_, by decide, (Host.Outcome.next.inj h).symm⟩
      · rename_i hw
        split at h
        · exact .inl ⟨_, by decide, (Host.Outcome.next.inj h).symm⟩
        · rename_i hb
          split at h
          · exact .inl ⟨_, by decide, (Host.Outcome.next.inj h).symm⟩
          · rename_i hs
            refine .inr ⟨?_, r, regNum_of_regOf n r hr, by simpa using hw, by simpa using hs,
              (Host.Outcome.next.inj h).symm⟩
            by_contra hx
            exact hb (busy_eq_true s hx)
  | txreq =>
    have h : execTxreq s = .next t := h
    unfold execTxreq at h
    split at h
    · exact .inl ⟨_, by decide, (Host.Outcome.next.inj h).symm⟩
    · rename_i hb
      split at h
      · exact .inl ⟨_, by decide, (Host.Outcome.next.inj h).symm⟩
      · rename_i hs
        refine .inr ⟨?_, by simpa using hs, (Host.Outcome.next.inj h).symm⟩
        by_contra hx
        exact hb (busy_eq_true s hx)
  | rxind len ack time =>
    have h : execRxind len ack time s = .next t := h
    unfold execRxind at h
    split at h
    · exact .inl ⟨_, by decide, (Host.Outcome.next.inj h).symm⟩
    · exact .inr (Host.Outcome.next.inj h).symm
  | crc16 len =>
    simp only [exec, execCrc16] at h
    rcases unitOp_cases s t _ h with ⟨_, h⟩ | ⟨h1, h2⟩
    · exact .inl ⟨_, by decide, h⟩
    · rw [h2]
      split
      · exact .inl ⟨_, by decide, rfl⟩
      · exact .inr ⟨h1, _, rfl⟩
  | hdrlen =>
    simp only [exec, execHdrlen] at h
    rcases unitOp_cases s t _ h with ⟨_, h⟩ | ⟨h1, h2⟩
    · exact .inl ⟨_, by decide, h⟩
    · exact .inr ⟨h1, _, h2⟩
  | decode len =>
    simp only [exec, execDecode] at h
    rcases unitOp_cases s t _ h with ⟨_, h⟩ | ⟨h1, h2⟩
    · exact .inl ⟨_, by decide, h⟩
    · rw [h2]
      split
      · exact .inl ⟨_, by decide, rfl⟩
      · right
        rcases s.rxDecode len.toNat with ⟨f, pad⟩ | code
        · exact ⟨h1, _, rfl⟩
        · exact ⟨h1, _, rfl⟩
  | encode len off =>
    simp only [exec, execEncode] at h
    rcases unitOp_cases s t _ h with ⟨_, h⟩ | ⟨h1, h2⟩
    · exact .inl ⟨_, by decide, h⟩
    · rw [h2]
      unfold State.encodeUnit
      dsimp only
      split
      · exact .inl ⟨_, by decide, rfl⟩
      · rename_i hn
        rcases he : encodeFrame (s.encodeSource off.toNat) len.toNat with _ | b
        · exact .inl ⟨_, by decide, rfl⟩
        · refine .inr ⟨h1, b, _, ?_, rfl⟩
          obtain ⟨b', h3, h4⟩ := encodeFrame_length (s.encodeSource off.toNat) len.toNat
            (by simp [State.encodeSource]) (encodeFrame_cases _ _ _ he).1
          rw [he] at h3
          cases h3
          unfold Config.frameBufLen at hn
          omega
  | phycalc load =>
    simp only [exec, execPhycalc] at h
    rcases unitOp_cases s t _ h with ⟨_, h⟩ | ⟨h1, h2⟩
    · exact .inl ⟨_, by decide, h⟩
    · rw [h2]
      unfold State.phyCalc
      split
      · rcases s.loadedSnap with _ | b
        · exact .inl ⟨_, by decide, rfl⟩
        · exact .inr ⟨h1, _, _, rfl⟩
      · exact .inr ⟨h1, _, _, rfl⟩
  | backoff p b =>
    simp only [exec, execBackoff] at h
    rcases unitOp_cases s t _ h with ⟨_, h⟩ | ⟨h1, h2⟩
    · exact .inl ⟨_, by decide, h⟩
    · exact .inr ⟨h1, _, h2⟩
  | accfail p =>
    simp only [exec, execAccfail] at h
    rcases unitOp_cases s t _ h with ⟨_, h⟩ | ⟨h1, h2⟩
    · exact .inl ⟨_, by decide, h⟩
    · exact .inr ⟨h1, _, h2⟩
  | accok =>
    simp only [exec, execAccok] at h
    rcases unitOp_cases s t _ h with ⟨_, h⟩ | ⟨h1, h2⟩
    · exact .inl ⟨_, by decide, h⟩
    · exact .inr ⟨h1, _, h2⟩
  | compensate =>
    simp only [exec, execCompensate] at h
    rcases unitOp_cases s t _ h with ⟨_, h⟩ | ⟨h1, h2⟩
    · exact .inl ⟨_, by decide, h⟩
    · exact .inr ⟨h1, _, h2⟩
  | nextseg seg off =>
    simp only [exec, execNextseg] at h
    rcases unitOp_cases s t _ h with ⟨_, h⟩ | ⟨h1, h2⟩
    · exact .inl ⟨_, by decide, h⟩
    · rw [h2]
      unfold State.nextSegUnitWith
      split
      · exact .inl ⟨_, by decide, rfl⟩
      · rcases hn : (s.seek seg off).nextSegWith Config.rsPad with _ | w
        · exact .inl ⟨_, by decide, rfl⟩
        · exact .inr ⟨h1, w, built_of_nextSeg _ _ hn, rfl⟩
  | segdone =>
    simp only [exec, execSegdone] at h
    rcases unitOp_cases s t _ h with ⟨_, h⟩ | ⟨h1, h2⟩
    · exact .inl ⟨_, by decide, h⟩
    · exact .inr ⟨h1, _, h2⟩
  | fallback r =>
    simp only [exec, execFallback] at h
    rcases unitOp_cases s t _ h with ⟨_, h⟩ | ⟨h1, h2⟩
    · exact .inl ⟨_, by decide, h⟩
    · exact .inr ⟨h1, _, _, h2⟩

/-- Everything a step can be: nothing presented, a byte written by the environment, a command refused or executed. -/
theorem step_cases (s t : State) (h : step s = .next t) :
    (s.inputs = [] ∧ t = s.takeTurn []) ∨
      (∃ off b rest, s.inputs = .reqmemWrite off b :: rest ∧ t = (s.takeTurn rest).writeReqmem off b) ∨
      (∃ off b rest, s.inputs = .rxbufWrite off b :: rest ∧ t = (s.takeTurn rest).writeRxbuf off b) ∨
      ∃ now rnd c rest, s.inputs = .command now rnd c :: rest ∧
        ((Sys2Proof.decode c = none ∧ t = ((s.takeTurn rest).sample now rnd).illegal) ∨
          ∃ i, Sys2Proof.decode c = some i ∧ exec i ((s.takeTurn rest).sample now rnd) = .next t) := by
  unfold step at h
  rcases hi : s.inputs with _ | ⟨x, rest⟩
  · rw [hi] at h
    exact .inl ⟨rfl, (Host.Outcome.next.inj h).symm⟩
  · rcases x with ⟨now, rnd, c⟩ | ⟨off, b⟩ | ⟨off, b⟩ <;> rw [hi] at h <;> dsimp only at h
    · refine .inr (.inr (.inr ⟨now, rnd, c, rest, rfl, ?_⟩))
      rcases hd : Sys2Proof.decode c with _ | i <;> rw [hd] at h <;> dsimp only at h
      · exact .inl ⟨rfl, (Host.Outcome.next.inj h).symm⟩
      · exact .inr ⟨i, rfl, h⟩
    · exact .inr (.inl ⟨off, b, rest, rfl, (Host.Outcome.next.inj h).symm⟩)
    · exact .inr (.inr (.inl ⟨off, b, rest, rfl, (Host.Outcome.next.inj h).symm⟩))

end Sys2Proof.Machine
end

