-- ==== Sys2Proof/Laws/PerInstr.lean ====
section
/-! SUPPORT. Per instruction: `W0` of an encoded operation matches a row of `spec/opcode_table.json`, and `W2`, which no
format names, is 0 (R100, R101, R105). -/

namespace Sys2Proof.Laws

/-! ## The formats and their masks -/

theorem wordF1_fits (op : BitVec 8) (f : Bool) : wordF1 op f &&& 0xFFFFFEFF#32 = op.setWidth 32 := by
  revert op f
  decide +kernel

theorem wordF2_fits (op : BitVec 8) (f g : Bool) : wordF2 op f g &&& 0xFFFFFCFF#32 = op.setWidth 32 := by
  revert op f g
  decide +kernel

theorem wordB_fits (op b : BitVec 8) : wordB op b &&& 0xFFFF00FF#32 = op.setWidth 32 := by
  refine BitVec.eq_of_getLsbD_eq fun i hi => ?_
  unfold wordB
  rw [BitVec.getLsbD_and, BitVec.getLsbD_append, BitVec.getLsbD_append, BitVec.getLsbD_setWidth]
  interval_cases i <;> simp

theorem wordS_fits (op b : BitVec 8) (f : Bool) : wordS op b f &&& 0xFFFE00FF#32 = op.setWidth 32 := by
  refine BitVec.eq_of_getLsbD_eq fun i hi => ?_
  unfold wordS
  rw [BitVec.getLsbD_and, BitVec.getLsbD_append, BitVec.getLsbD_append, BitVec.getLsbD_append, BitVec.getLsbD_setWidth]
  interval_cases i <;> simp

theorem wordL_fits (op : BitVec 8) (len : BitVec 12) : wordL op len false &&& 0xFFF000FF#32 = op.setWidth 32 := by
  refine BitVec.eq_of_getLsbD_eq fun i hi => ?_
  unfold wordL
  rw [BitVec.getLsbD_and, BitVec.getLsbD_append, BitVec.getLsbD_append, BitVec.getLsbD_append, BitVec.getLsbD_setWidth]
  interval_cases i <;> simp

theorem wordLFlag_fits (op : BitVec 8) (len : BitVec 12) (f : Bool) :
    wordL op len f &&& 0xFFE000FF#32 = op.setWidth 32 := by
  refine BitVec.eq_of_getLsbD_eq fun i hi => ?_
  unfold wordL
  rw [BitVec.getLsbD_and, BitVec.getLsbD_append, BitVec.getLsbD_append, BitVec.getLsbD_append, BitVec.getLsbD_setWidth]
  interval_cases i <;> simp

theorem wordN_fits (op : BitVec 8) (seg : BitVec 6) : wordN op seg &&& 0xFFFFC0FF#32 = op.setWidth 32 := by
  refine BitVec.eq_of_getLsbD_eq fun i hi => ?_
  unfold wordN
  rw [BitVec.getLsbD_and, BitVec.getLsbD_append, BitVec.getLsbD_append, BitVec.getLsbD_setWidth]
  interval_cases i <;> simp

/-! ## The family -/

/-- The encoded operation matches a row of the table, and its third word is 0. -/
def TableRow.Statement (i : Instr) : Prop :=
  (∃ r ∈ opcodeTable, r.fits (encode i).w0 = true) ∧ (encode i).w2 = 0#32

theorem TableRow.of_mask (i : Instr) (r : OpcodeRow) (hr : r ∈ opcodeTable) (h : (encode i).w0 &&& r.mask = r.value)
    (h2 : (encode i).w2 = 0#32) : TableRow.Statement i :=
  ⟨⟨r, hr, decide_eq_true h⟩, h2⟩

theorem TableRow.reset (clr : Bool) : TableRow.Statement (.reset clr) :=
  TableRow.of_mask _ ⟨0xFFFFFEFF#32, 0x00000001#32⟩ (by decide) (wordF1_fits _ _) rfl

theorem TableRow.get (reg : BitVec 8) : TableRow.Statement (.get reg) :=
  TableRow.of_mask _ ⟨0xFFFF00FF#32, 0x00000002#32⟩ (by decide) (wordB_fits _ _) rfl

theorem TableRow.set (reg : BitVec 8) (value : Word) : TableRow.Statement (.set reg value) :=
  TableRow.of_mask _ ⟨0xFFFF00FF#32, 0x00000003#32⟩ (by decide) (wordB_fits _ _) rfl

theorem TableRow.txreq : TableRow.Statement .txreq :=
  TableRow.of_mask _ ⟨0xFFFFFFFF#32, 0x00000004#32⟩ (by decide) (by decide) rfl

theorem TableRow.poll : TableRow.Statement .poll :=
  TableRow.of_mask _ ⟨0xFFFFFFFF#32, 0x00000005#32⟩ (by decide) (by decide) rfl

theorem TableRow.txcfm (status : PhyStatus) (time : Word) : TableRow.Statement (.txcfm status time) :=
  TableRow.of_mask _ ⟨0xFFFF00FF#32, 0x00000010#32⟩ (by decide) (wordB_fits _ _) rfl

theorem TableRow.rxind (len : BitVec 12) (ack : Bool) (time : Word) : TableRow.Statement (.rxind len ack time) :=
  TableRow.of_mask _ ⟨0xFFE000FF#32, 0x00000011#32⟩ (by decide) (wordLFlag_fits _ _ _) rfl

theorem TableRow.ackind (delim : Delim) (sub : Bool) (fcs : BitVec 16) :
    TableRow.Statement (.ackind delim sub fcs) :=
  TableRow.of_mask _ ⟨0xFFFE00FF#32, 0x00000012#32⟩ (by decide) (wordS_fits _ _ _) rfl

theorem TableRow.crc16 (len : BitVec 12) : TableRow.Statement (.crc16 len) :=
  TableRow.of_mask _ ⟨0xFFF000FF#32, 0x00000020#32⟩ (by decide) (wordL_fits _ _) rfl

theorem TableRow.hdrlen : TableRow.Statement .hdrlen :=
  TableRow.of_mask _ ⟨0xFFFFFFFF#32, 0x00000021#32⟩ (by decide) (by decide) rfl

theorem TableRow.decode (len : BitVec 12) : TableRow.Statement (.decode len) :=
  TableRow.of_mask _ ⟨0xFFF000FF#32, 0x00000022#32⟩ (by decide) (wordL_fits _ _) rfl

theorem TableRow.encode (len : BitVec 12) (off : BitVec 16) : TableRow.Statement (.encode len off) :=
  TableRow.of_mask _ ⟨0xFFF000FF#32, 0x00000023#32⟩ (by decide) (wordL_fits _ _) rfl

theorem TableRow.phycalc (load : Bool) : TableRow.Statement (.phycalc load) :=
  TableRow.of_mask _ ⟨0xFFFFFEFF#32, 0x00000024#32⟩ (by decide) (wordF1_fits _ _) rfl

theorem TableRow.backoff (prio bcast : Bool) : TableRow.Statement (.backoff prio bcast) :=
  TableRow.of_mask _ ⟨0xFFFFFCFF#32, 0x00000025#32⟩ (by decide) (wordF2_fits _ _ _) rfl

theorem TableRow.accfail (prio : Bool) : TableRow.Statement (.accfail prio) :=
  TableRow.of_mask _ ⟨0xFFFFFEFF#32, 0x00000026#32⟩ (by decide) (wordF1_fits _ _) rfl

theorem TableRow.accok : TableRow.Statement .accok :=
  TableRow.of_mask _ ⟨0xFFFFFFFF#32, 0x00000027#32⟩ (by decide) (by decide) rfl

theorem TableRow.compensate : TableRow.Statement .compensate :=
  TableRow.of_mask _ ⟨0xFFFFFFFF#32, 0x00000028#32⟩ (by decide) (by decide) rfl

theorem TableRow.nextseg (seg : BitVec 6) (off : BitVec 16) : TableRow.Statement (.nextseg seg off) :=
  TableRow.of_mask _ ⟨0xFFFFC0FF#32, 0x00000029#32⟩ (by decide) (wordN_fits _ _) rfl

theorem TableRow.segdone : TableRow.Statement .segdone :=
  TableRow.of_mask _ ⟨0xFFFFFFFF#32, 0x0000002A#32⟩ (by decide) (by decide) rfl

theorem TableRow.fallback (retries : BitVec 8) : TableRow.Statement (.fallback retries) :=
  TableRow.of_mask _ ⟨0xFFFF00FF#32, 0x0000002B#32⟩ (by decide) (wordB_fits _ _) rfl

end Sys2Proof.Laws
end

