-- ==== Sys2Proof/Laws/Wire.lean ====
section
/-! SUPPORT. Where the fields of a frame stand in its bytes: what `encode` writes there and `decode` reads there. -/

namespace Sys2Proof.Machine

/-! ## One field -/

/-- The bytes of a value, written at an offset, are a field there. -/
theorem fieldAt_of_append {w : Nat} (b pre post : List Byte) (p n : Nat) (v : BitVec w)
    (hb : b = pre ++ (bytesLe v n ++ post)) (hp : pre.length = p) : fieldAt b p n v := by
  subst hb hp
  intro k hk
  rw [byteAt, List.getD_append_right _ _ _ _ (by omega), List.getD_append _ _ _ _ (by simpa using by omega)]
  simp [bytesLe, hk]

/-- Digit `k` of the number that bytes stand for is byte `k`. -/
theorem leNat_digit (bs : List Byte) (k : Nat) : leNat bs / 2 ^ (8 * k) % 256 = (byteAt bs k).toNat := by
  induction bs generalizing k with
  | nil => simp [leNat, byteAt]
  | cons x bs ih =>
    have hx := x.isLt
    cases k with
    | zero =>
      show (x.toNat + 256 * leNat bs) / 2 ^ (8 * 0) % 256 = x.toNat
      simp
      omega
    | succ k =>
      have h : (x.toNat + 256 * leNat bs) / 256 = leNat bs := by omega
      show (x.toNat + 256 * leNat bs) / 2 ^ (8 * (k + 1)) % 256 = (byteAt bs k).toNat
      rw [show 2 ^ (8 * (k + 1)) = 256 * 2 ^ (8 * k) by ring, ← Nat.div_div_eq_div_mul, h, ih]

/-- What is read at an offset as a number of bytes is a field there. -/
theorem fieldAt_leAt (w : Nat) (b : List Byte) (p n : Nat) (h : 8 * n ≤ w) : fieldAt b p n (leAt w b p n) := by
  intro k hk
  apply BitVec.eq_of_toNat_eq
  have hlt : leNat ((b.drop p).take n) < 2 ^ w := by
    refine Nat.lt_of_lt_of_le (leNat_lt _) ?_
    rw [show (256 : Nat) = 2 ^ 8 by rfl, ← Nat.pow_mul]
    refine Nat.pow_le_pow_right (by omega) ?_
    rw [List.length_take]
    omega
  rw [toNat_extractByte, leAt, BitVec.toNat_ofNat, Nat.mod_eq_of_lt hlt, leNat_digit]
  congr 1
  unfold byteAt
  rw [List.getD_eq_getElem?_getD, List.getD_eq_getElem?_getD, List.getElem?_take_of_lt hk, List.getElem?_drop]

/-! ## The header -/

theorem srcOffset_eq (f : Frame) :
    srcOffset f = 6 + (if f.dstMode = .short then 4 else if f.dstMode = .extended then 10 else 0) := by
  unfold srcOffset
  cases f.dstMode <;> rfl

theorem srcPanLen_eq (m : AddrMode) (panComp : Bool) :
    srcPanLen m panComp = if (m = .short ∨ m = .extended) ∧ panComp = false then 2 else 0 := by
  cases m <;> cases panComp <;> rfl

theorem addrLen_eq (m : AddrMode) : addrLen m = if m = .short then 2 else if m = .extended then 8 else 0 := by
  cases m <;> rfl

theorem secLen_eq (f : Frame) : secLen f = if f.sec = true ∧ f.segNum = 0#6 then 6 else 0 := by
  unfold secLen secCarried
  cases f.sec <;> by_cases h : f.segNum = 0#6 <;> simp [h]

/-- The addressing fields of a frame, at the offsets the codec computes (R80, R82). -/
theorem addressingAt_iff (f : Frame) (b : List Byte) :
    addressingAt f b ↔
      (f.dstMode = .short → fieldAt b 6 2 f.dstPan ∧ fieldAt b 8 2 f.dstAddr) ∧
        (f.dstMode = .extended → fieldAt b 6 2 f.dstPan ∧ fieldAt b 8 8 f.dstAddr) ∧
        (f.srcMode = .short → f.panComp = false → fieldAt b (srcOffset f) 2 f.srcPan) ∧
        (f.srcMode = .extended → f.panComp = false → fieldAt b (srcOffset f) 2 f.srcPan) ∧
        (f.srcMode = .short → fieldAt b (srcAddrOffset f) 2 f.srcAddr) ∧
        (f.srcMode = .extended → fieldAt b (srcAddrOffset f) 8 f.srcAddr) ∧
        (f.sec = true → f.segNum = 0#6 → fieldAt b (secOffset f) 6 f.secHdr) := by
  unfold addressingAt hdrLen secOffset srcAddrOffset
  rw [srcOffset_eq, srcPanLen_eq, addrLen_eq, secLen_eq]
  simp only [and_true]

end Sys2Proof.Machine
end

