-- ==== Sys2Proof/Tests/Slice0.lean ====
section
/-! SUPPORT. Tests. Expected values are those of `spec/95_test_vectors.md` (the vector is named at each test) or of the
rule named. The theorems `witness_...` show that the hypotheses of an obligation can be met, clause by clause. -/

namespace Sys2Proof.Tests

-- One theorem at a time: each waits for the kernel, and a thread for each of them would exhaust the memory.
set_option Elab.async false

open Sys2Proof Sys2Proof.Machine

/-! ## Well-formedness: each check refuses an ill-formed term -/

theorem test_status_named_code_refused : (Instr.txcfm (.unknown 3#8) 0#32).wellFormed = false := by decide

theorem test_delim_named_code_refused :
    (Instr.ackind (.other 2#8) false 0#16).wellFormed = false ∧
      (Instr.ackind (.other 3#8) true 0#16).wellFormed = false := by decide

/-! ## Decoding: words of 95_test_vectors.md 2.1 -/

theorem test_decode_host_commands :
    decode ⟨0x00000101#32, 0#32, 0#32⟩ = some (.reset true) ∧
      decode ⟨0x00000001#32, 0#32, 0#32⟩ = some (.reset false) ∧
      decode ⟨0x00004302#32, 0#32, 0#32⟩ = some (.get 0x43#8) ∧
      decode ⟨0x00000703#32, 0x64#32, 0#32⟩ = some (.set 0x07#8 100#32) ∧
      decode ⟨0x00000004#32, 0#32, 0#32⟩ = some .txreq := by decide

theorem test_decode_mac_commands :
    decode ⟨0x00000005#32, 0#32, 0#32⟩ = some .poll ∧
      decode ⟨0x00000110#32, 0x848#32, 0#32⟩ = some (.txcfm .busyChannelSense 2120#32) ∧
      decode ⟨0x00101111#32, 0x384#32, 0#32⟩ = some (.rxind 17#12 true 900#32) ∧
      decode ⟨0x00000711#32, 0#32, 0#32⟩ = some (.rxind 7#12 false 0#32) ∧
      decode ⟨0x00010312#32, 0xC94C#32, 0#32⟩ = some (.ackind .nack true 0xC94C#16) := by decide

theorem test_decode_codec_commands :
    decode ⟨0x00000920#32, 0#32, 0#32⟩ = some (.crc16 9#12) ∧ decode ⟨0x00000021#32, 0#32, 0#32⟩ = some .hdrlen ∧
      decode ⟨0x00001122#32, 0#32, 0#32⟩ = some (.decode 17#12) ∧
      decode ⟨0x00001123#32, 0#32, 0#32⟩ = some (.encode 17#12 0#16) := by decide

theorem test_decode_unit_commands :
    decode ⟨0x00000124#32, 0#32, 0#32⟩ = some (.phycalc true) ∧
      decode ⟨0x00000225#32, 0#32, 0#32⟩ = some (.backoff false true) ∧
      decode ⟨0x00000126#32, 0#32, 0#32⟩ = some (.accfail true) ∧
      decode ⟨0x00000027#32, 0#32, 0#32⟩ = some .accok ∧ decode ⟨0x00000028#32, 0#32, 0#32⟩ = some .compensate ∧
      decode ⟨0x00000229#32, 0xD4#32, 0#32⟩ = some (.nextseg 2#6 212#16) ∧
      decode ⟨0x0000002A#32, 0#32, 0#32⟩ = some .segdone ∧
      decode ⟨0x0000032B#32, 0#32, 0#32⟩ = some (.fallback 3#8) := by decide

theorem test_decode_illegal :
    decode ⟨0x00000201#32, 0#32, 0#32⟩ = none ∧ decode ⟨0x00010005#32, 0#32, 0#32⟩ = none ∧
      decode ⟨0x00010010#32, 0#32, 0#32⟩ = none ∧ decode ⟨0x00100920#32, 0#32, 0#32⟩ = none ∧
      decode ⟨0x00000425#32, 0#32, 0#32⟩ = none ∧ decode ⟨0x00004029#32, 0#32, 0#32⟩ = none ∧
      decode ⟨0x00000000#32, 0#32, 0#32⟩ = none ∧ decode ⟨0x00000006#32, 0#32, 0#32⟩ = none ∧
      decode ⟨0x00000013#32, 0#32, 0#32⟩ = none ∧ decode ⟨0x0000002C#32, 0#32, 0#32⟩ = none ∧
      decode ⟨0x000000FF#32, 0#32, 0#32⟩ = none := by decide

/-- `SET` has its operand in `W1`: bits 63..32 of the numbering of the table. -/
theorem test_decodeTableWord : decodeTableWord 64 0x0000006400000703 = some (.set 0x07#8 100#32) := by decide

/-- A command placed for the next step is run by it (V-H3: `GET CW` after reset). -/
theorem test_withFetchWord :
    (nextOf (step (State.reset.withFetchWord 32 0x00004302))).map (·.effects) =
      some [.getConfirm 0x43#8 true 8#32] := by decide +kernel

/-! ## Small states -/

/-- The configuration after BOOT (95_test_vectors.md Part 3). -/
def boot : CfgBank :=
  { CfgBank.reset with
    slotTime := 100#32, eifsTime := 5000#32, cifsTime := 1000#32, rcifsTime := 500#32, cpTime := 4000#32
    rifsTime := 200#32, ackTime := 300#32, leadTime := 400#32, panId := 0x781D#16, shortAddr := 1#16 }

/-- No request active, `RXBUF` holding some bytes. -/
def idleWith (bs : List Byte) : State :=
  { State.reset with cfg := boot, rxbuf := Memory.writeRun [] 0 bs }

/-- A request in a sub-state, the occupancy state and its entry time given, at a time. -/
def active (t : TxSub) (o : Occ) (entered now : Word) : State :=
  { State.reset with cfg := boot, mac := { MacBank.reset with tx := t, occ := o, occEntered := entered }, now := now }

/-- Bytes of V-C2. -/
def bytesC2 : List Byte :=
  [0x01, 0x00, 0x03, 0x61, 0x88, 0x2A, 0x1D, 0x78, 0x02, 0x00, 0x01, 0x00, 0xAA, 0xBB, 0xCC, 0x4C, 0xC9]

/-- The record of V-C2. -/
def frameC2 : Frame :=
  { segLen := 3, segNum := 0, lsf := true, cap := false, tmr := false, ftype := 1, sec := false, pending := false
    ackReq := true, panComp := true, dstMode := .short, version := 0, srcMode := .short, seq := 0x2A
    dstPan := 0x781D, srcPan := 0x781D, dstAddr := 2, srcAddr := 1, secHdr := 0, payload := [0xAA, 0xBB, 0xCC] }

/-- The record of V-C8: a security header that is not carried. -/
def frameC8 : Frame :=
  { segLen := 1, segNum := 1, lsf := false, cap := false, tmr := false, ftype := 1, sec := true, pending := false
    ackReq := false, panComp := false, dstMode := .extended, version := 0, srcMode := .extended, seq := 0
    dstPan := 0x0102, srcPan := 0x0304, dstAddr := 0x1112131415161718, srcAddr := 0x2122232425262728, secHdr := 0
    payload := [0x99] }

/-- The record of V-C7, which is V-C8's with its security header carried. -/
def frameC7 : Frame := { frameC8 with segNum := 0, secHdr := 0x060504030201 }

/-- The record of V-C4: an extended destination, a short source with its own PAN, a security header. -/
def frameC4 : Frame :=
  { segLen := 2, segNum := 0, lsf := false, cap := true, tmr := true, ftype := 1, sec := true, pending := false
    ackReq := false, panComp := false, dstMode := .extended, version := 1, srcMode := .short, seq := 0xFF
    dstPan := 0x1234, srcPan := 0xABCD, dstAddr := 0x0102030405060708, srcAddr := 0x00FE, secHdr := 0x010D
    payload := [0x11, 0x22] }

/-- The record of V-C1: no addresses, no payload. -/
def frameC1 : Frame :=
  { segLen := 0, segNum := 0, lsf := true, cap := false, tmr := false, ftype := 1, sec := false, pending := false
    ackReq := false, panComp := false, dstMode := .none, version := 0, srcMode := .none, seq := 0
    dstPan := 0, srcPan := 0, dstAddr := 0, srcAddr := 0, secHdr := 0, payload := [] }

/-- The descriptor of P2, a snapshot that leaves 106 bytes of payload (TC1, BPSK), and the last 88 bytes of its data. -/
def sending : State :=
  { State.reset with
    cfg := boot
    txd := { TxdBank.reset with len := 300#16, ctrl := 0x1A41#16, dstPan := 0x781D#16, dstLo := 2#32 }
    snap := { SnapBank.reset with modType := .bpsk, maxPhy := 120#16 }
    reqmem := Memory.writeRun [] 212 ((List.range 88).map (fun k => BitVec.ofNat 8 (212 + k))) }

/-! ## Frame codec -/

/-- V-C2 and V-C3, from the record to the bytes. -/
theorem test_encode_frame :
    encodeFrame frameC2 17 = some bytesC2 ∧
      encodeFrame frameC2 19 =
        some [0x01, 0x00, 0x03, 0x61, 0x88, 0x2A, 0x1D, 0x78, 0x02, 0x00, 0x01, 0x00, 0xAA, 0xBB, 0xCC, 0x00, 0x00,
          0x0B, 0xB4] := by decide +kernel

/-- V-C8, from the bytes to the record: `sec = 1` and the security header 0. -/
theorem test_decode_frame :
    decodeFrame
        [0x00, 0x04, 0x01, 0x09, 0xCC, 0x00, 0x02, 0x01, 0x18, 0x17, 0x16, 0x15, 0x14, 0x13, 0x12, 0x11, 0x04, 0x03,
          0x28, 0x27, 0x26, 0x25, 0x24, 0x23, 0x22, 0x21, 0x99, 0x0F, 0x13] =
      .ok frameC8 0 := by decide +kernel

/-- V-C9, V-C10, V-C13, V-C15, V-C16, V-C20, V-C21, V-C18. -/
theorem test_reject_frames :
    decodeFrame [0x01, 0x00, 0x00, 0x01, 0x00, 0x00, 0xF7] = .reject .short ∧
      decodeFrame (bytesC2.set 0 0x81) = .reject .badCrc ∧
      decodeFrame [0x01, 0x00, 0x00, 0x04, 0x00, 0x00, 0x4A, 0x67] = .reject .badType ∧
      decodeFrame [0x01, 0x00, 0x00, 0x11, 0x00, 0x00, 0x62, 0xDB] = .reject .pending ∧
      decodeFrame [0x01, 0x00, 0x00, 0x01, 0x04, 0x00, 0x97, 0x39] = .reject .badAddrMode ∧
      decodeFrame [0x01, 0x00, 0x04, 0x01, 0x00, 0x00, 0x01, 0x02, 0x03, 0x57, 0x7D] = .reject .length ∧
      decodeFrame [0x01, 0x00, 0x00, 0x41, 0x80, 0x00, 0xFF, 0xFF, 0x0F, 0x96] = .reject .srcUndefined ∧
      decodeFrame [0x01, 0x00, 0x00, 0x15, 0x04, 0x00, 0x63, 0xDF] = .reject .badType := by decide +kernel

/-! ## One step of each operation -/

/-- The response word of an operation. -/
def answerOf (i : Instr) (s : State) : Option Word := (nextOf (exec i s)).bind (·.response)

/-- V-H2. -/
theorem test_reset_keeps_configuration :
    (nextOf
        (exec (.reset false)
          { State.reset with
            cfg := { CfgBank.reset with minBE := 4, slotTime := 100 }
            csma := CsmaBank.resetWith 64
            cnt := { CntBank.reset with badCrc := 9 } })).map
        (fun t => (t.cfg.minBE, t.cfg.slotTime, t.csma.cw, t.cnt.badCrc)) =
      some (4, 100, 16, 0) := by decide +kernel

/-- V-H4. -/
theorem test_get_unimplemented :
    (nextOf (exec (.get 0x4D) State.reset)).map (·.effects) = some [.getConfirm 0x4D false 0] := by decide +kernel

/-- V-H8 and V-H7. -/
theorem test_set_window_bound :
    (nextOf (exec (.set 0x05 0x1A) State.reset)).map (fun t => (t.cfg.maxBE, t.csma.cw)) = some (0xA, 8) ∧
      answerOf (.set 0x04 9) State.reset = some 3 := by decide +kernel

/-- V-H10, V-H5, V-H6. -/
theorem test_set_hardwired_and_errors :
    (nextOf (exec (.set 0xA1 0xFFFFFFFF) State.reset)).map (·.txfr.fc) = some 0xFC7F ∧
      answerOf (.set 0x43 1) State.reset = some 4 ∧ answerOf (.set 0x4D 1) State.reset = some 5 := by decide +kernel

/-- V-H17 and the `STATE` of V-H13; then the last line of P3: the window and the waits are kept, the counters cleared. -/
theorem test_txreq_accepted :
    (nextOf (exec .txreq { State.reset with sess := { SessBank.reset with dsn := 255 } })).map
        (fun t => (t.sess.reqSeq, t.sess.dsn, t.response, t.mac.stateBits)) =
      some (255, 0, some 0x0000FF00, 0x110) ∧
    (nextOf (exec .txreq
        { State.reset with
          csma := { CsmaBank.resetWith 64 with nb := 3, nbf := 3, backoff := 800, periodWait := 800 } })).map
        (fun t => (t.csma.cw, t.csma.nb, t.csma.nbf, t.csma.backoff, t.csma.periodWait)) =
      some (64, 0, 0, 800, 800) := by decide +kernel

/-- V-H15, V-H16, V-H14. -/
theorem test_txreq_refused :
    answerOf .txreq { State.reset with txd := { TxdBank.reset with ctrl := 0x0100 } } = some 3 ∧
      answerOf .txreq { State.reset with txd := { TxdBank.reset with ctrl := 0x5000 } } = some 3 ∧
      answerOf .txreq (active .start .idle 0 0) = some 6 := by decide +kernel

/-- V-M3: the elapsed time wraps. -/
theorem test_poll_occupancy :
    (nextOf (exec .poll (active .none .eifs 0xFFFFF000 0x388))).map (fun t => (t.mac.occ, t.mac.occEntered)) =
      some (.idle, 0x388) := by decide +kernel

/-- V-M10 and V-M9: the send time wraps; too little of the contention period is left. -/
theorem test_poll_wait_send :
    (nextOf
        (exec .poll
          { active .waitSend .cp 0xFFFFFF00 0x10 with
            csma := { CsmaBank.resetWith 8 with periodWait := 800, backoff := 500 } })).map (·.effects) =
      some [.phyTxReq 0 false true false 0x414 []] ∧
    (nextOf (exec .poll (active .waitSend .cp 10000 13700))).map (fun t => (t.mac.tx, t.effects)) =
      some (.waitSend, []) := by decide +kernel

/-- V-M20. -/
theorem test_txcfm_unknown_status :
    (nextOf (exec (.txcfm (.unknown 200) 0) (active .waitConfirm .idle 0 0))).map
        (fun t => (t.mac.tx, t.mac.occ, t.effects)) =
      some (.none, .eifs, [.txConfirm .denied .robust false]) := by decide +kernel

/-- The first busy confirm of P3: `NB` 1, `NBF` 1, `CW` 16, both marks set. -/
theorem test_txcfm_busy :
    (nextOf (exec (.txcfm .busyChannelSense 2120) (active .waitConfirm .idle 0 2200))).map
        (fun t => (t.mac.tx, t.csma.nb, t.csma.nbf, t.csma.cw, t.mac.compPending, t.mac.compNbf)) =
      some (.failCsmaCa, 1, 1, 16, true, true) := by decide +kernel

/-- R260, R264: V-C2 sent to this node with an acknowledgement requested. -/
theorem test_rxind_delivers_and_acknowledges :
    (nextOf (exec (.rxind 17 true 900)
        { idleWith bytesC2 with cfg := { boot with shortAddr := 2 }, now := 1000 })).map
        (fun t => (t.mac.occ, t.effects)) =
      some (.rifs, [.dataInd (RxBank.ofDecode frameC2 0 bytesC2) [0xAA, 0xBB, 0xCC] 900,
        .phyAckReq .ack false 0xC94C 1200]) := by decide +kernel

/-- R131, V-C10: a rejected reception. -/
theorem test_rxind_rejected :
    (nextOf (exec (.rxind 17 true 900) (idleWith (bytesC2.set 0 0x81)))).map
        (fun t => (t.mac.occ, t.cnt.badCrc, t.cnt.lastReject, t.response, t.effects)) =
      some (.eifs, 1, .badCrc, some 0x00000200, []) := by decide +kernel

/-- V-M15 and V-M16. -/
theorem test_ackind :
    (nextOf (exec (.ackind .nack true 0xC94C)
        { active .waitAck .rifs 0 0 with sess := { SessBank.reset with txFcs := 0xC94C } })).map
        (fun t => (t.mac.tx, t.mac.occ, t.response)) = some (.bigFail, .rcifs, some 0x100) ∧
    (nextOf (exec (.ackind .ack false 0x1234)
        { active .waitAck .rifs 0 0 with sess := { SessBank.reset with txFcs := 0xC94C } })).map
        (fun t => (t.mac.tx, t.mac.occ, t.response)) = some (.waitAck, .cifs, some 0) := by decide +kernel

/-- V-K6 and the bound of 2.2. -/
theorem test_crc16 :
    answerOf (.crc16 9) (idleWith [0x31, 0x32, 0x33, 0x34, 0x35, 0x36, 0x37, 0x38, 0x39]) = some 0x00218900 ∧
      answerOf (.crc16 2049) State.reset = some 3 := by decide +kernel

/-- 2.3: `HDRLEN` with `TXFR_FC = 0x8861`. -/
theorem test_hdrlen :
    answerOf .hdrlen { State.reset with txfr := { FrameBank.reset with fc := 0x8861 } } = some 0x00000C00 := by
  decide +kernel

/-- 2.4: `DECODE` of V-C3. -/
theorem test_decode :
    (nextOf (exec (.decode 19) (idleWith
        [0x01, 0x00, 0x03, 0x61, 0x88, 0x2A, 0x1D, 0x78, 0x02, 0x00, 0x01, 0x00, 0xAA, 0xBB, 0xCC, 0x00, 0x00, 0x0B,
          0xB4]))).map (fun t => (t.rxfr, t.response)) =
      some
        ({ header :=
            { FrameBank.reset with
              sc := 0x10003, fc := 0x8861, seq := 0x2A, dstPan := 0x781D, dstLo := 2, srcPan := 0x781D, srcLo := 1 }
           padLen := 2, payOff := 12, fcs := 0xB40B, len := 19 }, some 0) := by decide +kernel

/-- V-C2 by `ENCODE`, and its length error (2.5). -/
theorem test_encode :
    (nextOf (exec (.encode 17 0)
        { State.reset with
          txfr := FrameBank.ofFrame frameC2, reqmem := Memory.writeRun [] 0 [0xAA, 0xBB, 0xCC] })).map
        (fun t => (Memory.readRun t.txbuf 0 17, t.sess.txLen, t.sess.txFcs, t.response)) =
      some (bytesC2, 17, 0xC94C, some 0x00C94C00) ∧
    answerOf (.encode 16 0) { State.reset with txfr := FrameBank.ofFrame frameC2 } = some 3 := by decide +kernel

/-- V-P1, the columns the document gives. -/
theorem test_phycalc :
    (nextOf (exec (.phycalc true) { State.reset with txd := { TxdBank.reset with ctrl := 0x3000 } })).map
        (fun t => (t.snap.modType, t.snap.bpc, t.snap.rep, t.snap.parity)) = some (.psk8, 3, 1, 16) ∧
    (nextOf (exec (.phycalc false) State.reset)).map (fun t => (t.snap.bpc, t.snap.rep, t.snap.parity)) =
      some (1, 4, 8) ∧
    answerOf (.phycalc true) { State.reset with txd := { TxdBank.reset with ctrl := 0x5000 } } = some 3 := by
  decide +kernel

/-- V-B1 and V-B2. -/
theorem test_backoff :
    (nextOf (exec (.backoff false false) { idleWith [] with rnd := 13 })).map
        (fun t => (t.csma.backoff, t.csma.periodWait, t.csma.minCwStreak, t.response)) =
      some (500, 800, 1, some 0x500) ∧
    (nextOf (exec (.backoff true false) { idleWith [] with rnd := 13 })).map
        (fun t => (t.csma.backoff, t.csma.periodWait, t.csma.minCwStreak, t.response)) =
      some (600, 100, 0, some 0x600) := by decide +kernel

/-- V-B4: the maximum window for a broadcast. -/
theorem test_backoff_broadcast :
    (nextOf (exec (.backoff false true)
        { State.reset with cfg := { CfgBank.reset with macFlags := 1, slotTime := 10 }, rnd := 300 })).map
        (fun t => (t.csma.backoff, t.csma.cw)) = some (440, 8) := by decide +kernel

/-- V-B10, failures 30 and 1. -/
theorem test_accfail :
    (nextOf (exec (.accfail false)
        { State.reset with csma := { CsmaBank.resetWith 256 with nb := 29, nbf := 29 } })).map
        (fun t => (t.csma.cw, t.csma.nb, t.csma.nbf)) = some (192, 30, 30) ∧
    (nextOf (exec (.accfail true) State.reset)).map (fun t => (t.csma.cw, t.csma.nb, t.csma.nbf)) =
      some (16, 1, 0) := by decide +kernel

/-- V-B12, V-B13. -/
theorem test_accok :
    answerOf .accok { State.reset with csma := CsmaBank.resetWith 256 } = some 0xC000 ∧
      answerOf .accok { State.reset with csma := CsmaBank.resetWith 64 } = some 0x800 := by decide +kernel

/-- V-B20 on the operation's function, V-B23. -/
theorem test_compensate :
    (State.compensate
        { State.reset with
          csma := { CsmaBank.resetWith 8 with nb := 3, nbf := 2 }
          mac := { MacBank.reset with compPending := true, compNbf := true } }).csma =
      { CsmaBank.resetWith 8 with nb := 2, nbf := 1 } ∧
    answerOf .compensate State.reset = some 0 := by decide +kernel

/-- The last segment of V-S1, under a padding function that adds nothing (TC1). -/
theorem test_nextseg :
    let t := sending.nextSegUnitWith (fun _ _ => 0) 2 212
    (t.response, t.sess.segLen, t.sess.maxSegPayload, t.sess.txLen, t.mac.moreFrag) =
      (some 0x00045800, 88, 106, 102, false) := by decide +kernel

/-- 2.9: `SEGDONE` after that segment. -/
theorem test_segdone :
    (nextOf (exec .segdone { sending with sess := { SessBank.reset with sentOffset := 212, segLen := 88 } })).map
        (fun t => (t.sess.sentOffset, t.response)) = some (300, some 0) := by decide +kernel

/-- 2.8: `FALLBACK retries=3` from 8PSK. -/
theorem test_fallback :
    (nextOf (exec (.fallback 3) { State.reset with snap := { SnapBank.reset with modType := .psk8 } })).map
        (fun t => (t.response, t.snap.modType, t.snap.bpc)) = some (some 0x00000200, .qpsk, 2) := by decide +kernel

/-! ## The hypotheses of the statements can be met

`witness_<Name>` gives, for the statement `Obligations.<Name>`, concrete values that meet its hypotheses together: one
conjunct for each clause, at the boundary of its range where it has one. Statements without hypotheses have none. -/

/-- A test on the next state of an outcome, as an existence. -/
theorem next_of (o : Host.Outcome State Fault Refusal) (p : State → Prop) [DecidablePred p]
    (h : (nextOf o).map (fun t => decide (p t)) = some true) : ∃ t, o = .next t ∧ p t := by
  cases o with
  | next t => exact ⟨t, rfl, by simpa [nextOf] using h⟩
  | fault f => simp [nextOf] at h
  | refused r => simp [nextOf] at h

/-- A state that is presented one turn. -/
def presenting (i : Input) : State := { State.reset with inputs := [i] }

/-- A state that is presented one command word, with `W1 = W2 = 0` and both draws 0. -/
def presentingWord (w0 : Word) : State := presenting (.command 0 0 ⟨w0, 0, 0⟩)

/-- A reset state with another window. -/
def withWindow (cw : BitVec 16) : State := { State.reset with csma := CsmaBank.resetWith cw }

/-- A reset state whose descriptor has a given `TXD_CTRL`. -/
def withCtrl (ctrl : BitVec 16) : State := { State.reset with txd := { TxdBank.reset with ctrl := ctrl } }

/-- A request in a sub-state with a given `TXD_CTRL`, at time 0. -/
def activeCtrl (t : TxSub) (ctrl : BitVec 16) : State :=
  { active t .idle 0 0 with txd := { TxdBank.reset with ctrl := ctrl } }

theorem witness_DecodeOfEncode :
    (Instr.txcfm (.unknown 4) 0).wellFormed = true ∧ (Instr.txcfm (.unknown 255) 0xFFFFFFFF).wellFormed = true ∧
      (Instr.ackind (.other 0) false 0).wellFormed = true ∧ (Instr.ackind (.other 1) true 0xFFFF).wellFormed = true ∧
      (Instr.ackind (.other 4) true 1).wellFormed = true ∧ (Instr.rxind 4095 true 0xFFFFFFFF).wellFormed = true ∧
      (Instr.nextseg 63 0xFFFF).wellFormed = true := by decide +kernel

theorem witness_TableDecides :
    (∀ r ∈ opcodeTable, r.fits 0x00000201 = false) ∧ (∃ r ∈ opcodeTable, r.fits 0x00000101 = true) ∧
      (∃ r ∈ opcodeTable, r.fits 0x0000002B = true) := by decide +kernel

theorem witness_StepRunsDecoded :
    (presenting (.command 7 9 ⟨0x00000703, 100, 0⟩)).inputs = .command 7 9 ⟨0x00000703, 100, 0⟩ :: [] ∧
      Sys2Proof.decode ⟨0x00000703, 100, 0⟩ = some (.set 0x07 100) := by decide +kernel

theorem witness_IllegalCommand :
    (∀ w0, (presentingWord w0).inputs = .command 0 0 ⟨w0, 0, 0⟩ :: []) ∧
      (∀ r ∈ opcodeTable, r.fits 0x00000201 = false) ∧ (0x00000100#32).extractLsb' 0 8 = 0x00#8 ∧
      0x06 ≤ ((0x06#32).extractLsb' 0 8).toNat ∧ ((0x0F#32).extractLsb' 0 8).toNat ≤ 0x0F ∧
      0x13 ≤ ((0x13#32).extractLsb' 0 8).toNat ∧ ((0x1F#32).extractLsb' 0 8).toNat ≤ 0x1F ∧
      0x2C ≤ ((0x2C#32).extractLsb' 0 8).toNat ∧ 0x2C ≤ ((0xFF#32).extractLsb' 0 8).toNat :=
  ⟨fun _ => rfl, by decide +kernel, by decide, by decide, by decide, by decide, by decide, by decide, by decide⟩

theorem witness_EnvironmentTurns :
    State.reset.inputs = [] ∧ (presenting (.reqmemWrite 0xFFFF 1)).inputs = .reqmemWrite 0xFFFF 1 :: [] ∧
      (presenting (.rxbufWrite 0x7FF 1)).inputs = .rxbufWrite 0x7FF 1 :: [] := ⟨rfl, rfl, rfl⟩

theorem witness_FrameRoundTrip :
    frameC2.wf = true ∧ expected frameC2 ≤ 17 ∧ expected frameC2 ≤ 2048 ∧ frameC8.wf = true ∧
      expected frameC8 ≤ 29 := by decide +kernel

/-- Below and at the expected length; a frame for each form of each side: short and extended destination, short and
extended source with and without a PAN of its own, a security header carried; the reserved mode is no form of a side. -/
theorem witness_EncodedFrameBytes :
    frameC2.payload.length = frameC2.segLen.toNat ∧ 16 < expected frameC2 ∧ expected frameC2 ≤ 17 ∧
      (frameC2.dstMode = .short ∧ frameC2.srcMode = .short ∧ frameC2.panComp = true) ∧
      (frameC4.payload.length = frameC4.segLen.toNat ∧ expected frameC4 ≤ 30 ∧ frameC4.dstMode = .extended ∧
        frameC4.srcMode = .short ∧ frameC4.panComp = false ∧ frameC4.sec = true ∧ frameC4.segNum = 0) ∧
      (frameC7.payload.length = frameC7.segLen.toNat ∧ expected frameC7 ≤ 35 ∧ frameC7.srcMode = .extended ∧
        frameC7.panComp = false) ∧
      (frameC1.payload.length = frameC1.segLen.toNat ∧ expected frameC1 ≤ 8) := by decide +kernel

/-- V-C1, V-C2, V-C4, V-C7, V-C23 (an extended source of all ones, compressed, no destination), V-C24 (every reserved bit
set), V-C25 (padding that is not 0), V-C26 (a short destination, no source): each form of each clause. V-C8 is
`test_decode_frame`. -/
theorem witness_AcceptedFrame :
    decodeFrame [0x01, 0x00, 0x00, 0x01, 0x00, 0x00, 0xF7, 0x5E] = .ok frameC1 0 ∧ decodeFrame bytesC2 = .ok frameC2 0 ∧
      decodeFrame
          [0x0A, 0x00, 0x02, 0x09, 0x9C, 0xFF, 0x34, 0x12, 0x08, 0x07, 0x06, 0x05, 0x04, 0x03, 0x02, 0x01, 0xCD, 0xAB,
            0xFE, 0x00, 0x0D, 0x01, 0x00, 0x00, 0x00, 0x00, 0x11, 0x22, 0x26, 0xE9] = .ok frameC4 0 ∧
      decodeFrame
          [0x00, 0x00, 0x01, 0x09, 0xCC, 0x00, 0x02, 0x01, 0x18, 0x17, 0x16, 0x15, 0x14, 0x13, 0x12, 0x11, 0x04, 0x03,
            0x28, 0x27, 0x26, 0x25, 0x24, 0x23, 0x22, 0x21, 0x01, 0x02, 0x03, 0x04, 0x05, 0x06, 0x99, 0xF7, 0xAF] =
        .ok frameC7 0 ∧
      decodeFrame
          [0x01, 0x00, 0x00, 0x41, 0xC0, 0x00, 0xFF, 0xFF, 0xFF, 0xFF, 0xFF, 0xFF, 0xFF, 0xFF, 0x96, 0x92] =
        .ok { frameC1 with panComp := true, srcMode := .extended, srcAddr := 0xFFFFFFFFFFFFFFFF } 0 ∧
      decodeFrame
          [0xF5, 0x00, 0x03, 0xE1, 0x8B, 0x2A, 0x1D, 0x78, 0x02, 0x00, 0x01, 0x00, 0xAA, 0xBB, 0xCC, 0x7C, 0xFA] =
        .ok frameC2 0 ∧
      decodeFrame
          [0x01, 0x00, 0x03, 0x61, 0x88, 0x2A, 0x1D, 0x78, 0x02, 0x00, 0x01, 0x00, 0xAA, 0xBB, 0xCC, 0x5A, 0x5A, 0x53,
            0x67] = .ok frameC2 2 ∧
      decodeFrame [0x01, 0x00, 0x00, 0x01, 0x08, 0x00, 0xFF, 0xFF, 0xFF, 0xFF, 0x33, 0x61] =
        .ok { frameC1 with dstMode := .short, dstPan := 0xFFFF, dstAddr := 0xFFFF } 0 := by decide +kernel

/-- One frame for each clause, in their order; the last two are accepted: a payload at its exact length, and a short
source address one below the undefined one. -/
theorem witness_RejectionOrder :
    (List.replicate 7 0#8).length < 8 ∧
    (let b := [0x01#8, 0x00, 0x00, 0x00, 0x00, 0x00, 0x2B, 0x05];
      8 ≤ b.length ∧ crc16 (b.take (b.length - 2)) ≠ fcsOf b) ∧
    (∀ b ∈ [[0x01#8, 0x00, 0x00, 0x04, 0x00, 0x00, 0x4A, 0x67], [0x01, 0x00, 0x00, 0x07, 0x00, 0x00, 0x2E, 0x88]],
      8 ≤ b.length ∧ crc16 (b.take (b.length - 2)) = fcsOf b ∧ 4 ≤ ((byteAt b 3).extractLsb' 0 3).toNat) ∧
    (let b := [0x01#8, 0x00, 0x00, 0x13, 0x00, 0x00, 0xDA, 0x6E];
      8 ≤ b.length ∧ crc16 (b.take (b.length - 2)) = fcsOf b ∧ ((byteAt b 3).extractLsb' 0 3).toNat < 4 ∧
        (byteAt b 3).getLsbD 4 = true) ∧
    (∀ b ∈ [[0x01#8, 0x00, 0x00, 0x01, 0x04, 0x00, 0x97, 0x39], [0x01, 0x00, 0x00, 0x01, 0x40, 0x00, 0x91, 0x18]],
      8 ≤ b.length ∧ crc16 (b.take (b.length - 2)) = fcsOf b ∧ ((byteAt b 3).extractLsb' 0 3).toNat < 4 ∧
        (byteAt b 3).getLsbD 4 = false ∧
        ((byteAt b 4).extractLsb' 2 2 = 1#2 ∨ (byteAt b 4).extractLsb' 6 2 = 1#2)) ∧
    (let b := [0x01#8, 0x00, 0x01, 0x01, 0x00, 0x00, 0x4C, 0x42];
      8 ≤ b.length ∧ crc16 (b.take (b.length - 2)) = fcsOf b ∧ ((byteAt b 3).extractLsb' 0 3).toNat < 4 ∧
        (byteAt b 3).getLsbD 4 = false ∧ (byteAt b 4).extractLsb' 2 2 ≠ 1#2 ∧ (byteAt b 4).extractLsb' 6 2 ≠ 1#2 ∧
        b.length < expected (decodeFixed b)) ∧
    (let b := [0x01#8, 0x00, 0x00, 0x41, 0x80, 0x00, 0xFF, 0xFF, 0x0F, 0x96];
      8 ≤ b.length ∧ crc16 (b.take (b.length - 2)) = fcsOf b ∧ ((byteAt b 3).extractLsb' 0 3).toNat < 4 ∧
        (byteAt b 3).getLsbD 4 = false ∧ (byteAt b 4).extractLsb' 2 2 ≠ 1#2 ∧ (byteAt b 4).extractLsb' 6 2 ≠ 1#2 ∧
        expected (decodeFixed b) ≤ b.length ∧ (byteAt b 4).extractLsb' 6 2 = 2#2 ∧
        leAt 16 b (srcAddrOffset (decodeFixed b)) 2 = 0xFFFF#16) ∧
    (∀ b ∈ [[0x01#8, 0x00, 0x01, 0x03, 0x00, 0x00, 0x09, 0x9D, 0x2C],
        [0x01, 0x00, 0x00, 0x41, 0x80, 0x00, 0xFE, 0xFF, 0xD7, 0x8F]],
      8 ≤ b.length ∧ crc16 (b.take (b.length - 2)) = fcsOf b ∧ ((byteAt b 3).extractLsb' 0 3).toNat < 4 ∧
        (byteAt b 3).getLsbD 4 = false ∧ (byteAt b 4).extractLsb' 2 2 ≠ 1#2 ∧ (byteAt b 4).extractLsb' 6 2 ≠ 1#2 ∧
        expected (decodeFixed b) ≤ b.length ∧
        ((byteAt b 4).extractLsb' 6 2 ≠ 2#2 ∨ leAt 16 b (srcAddrOffset (decodeFixed b)) 2 ≠ 0xFFFF#16)) := by
  decide +kernel

theorem witness_BitFlipRejected :
    frameC2.payload.length = frameC2.segLen.toNat ∧ encodeFrame frameC2 17 = some bytesC2 ∧ 14 + 2 < 17 ∧ 7 < 8 := by
  decide +kernel

theorem witness_Crc16AndHdrlen :
    State.reset.mac.tx = .none ∧ (2048#12).toNat ≤ 2048 ∧ 2048 < (2049#12).toNat ∧ 2048 < (4095#12).toNat := by decide +kernel

theorem witness_DecodeOperation :
    (idleWith bytesC2).mac.tx = .none ∧ 2048 < (2049#12).toNat ∧ (17#12).toNat ≤ 2048 ∧
      decodeFrame (Memory.readRun (idleWith (bytesC2.set 0 0x81)).rxbuf 0 (17#12).toNat) = .reject .badCrc ∧
      (RejectCode.short ≠ .badCrc ∧
        decodeFrame (Memory.readRun (idleWith bytesC2).rxbuf 0 (7#12).toNat) = .reject .short) ∧
      decodeFrame (Memory.readRun (idleWith bytesC2).rxbuf 0 (17#12).toNat) = .ok frameC2 0 := by decide +kernel

/-- V-C2 in TXFR (the reserved bits of `TXFR_FC` set) with its payload in the last three bytes of `REQMEM`, for which
`frameC2` is the record encoded. -/
def encoding : State :=
  { State.reset with
    txfr := { FrameBank.ofFrame frameC2 with fc := (FrameBank.ofFrame frameC2).fc ||| 0x0380#16 }
    reqmem := Memory.writeRun [] 65533 [0xAA, 0xBB, 0xCC] }

/-- The record of `encoding`, field by field and byte by byte; the least length, and the payload that ends where
`REQMEM` ends; then the three failures, each by one. -/
theorem witness_EncodeOperation :
    encoding.mac.tx = .none ∧
      (frameC2.segLen = encoding.txfr.sc.extractLsb' 0 10 ∧ frameC2.segNum = encoding.txfr.sc.extractLsb' 10 6 ∧
        frameC2.lsf = encoding.txfr.sc.getLsbD 16 ∧ frameC2.cap = encoding.txfr.sc.getLsbD 17 ∧
        frameC2.tmr = encoding.txfr.sc.getLsbD 18 ∧ frameC2.ftype = encoding.txfr.fc.extractLsb' 0 3 ∧
        frameC2.sec = encoding.txfr.fc.getLsbD 3 ∧ frameC2.pending = encoding.txfr.fc.getLsbD 4 ∧
        frameC2.ackReq = encoding.txfr.fc.getLsbD 5 ∧ frameC2.panComp = encoding.txfr.fc.getLsbD 6 ∧
        addrModeBits frameC2.dstMode = encoding.txfr.fc.extractLsb' 10 2 ∧
        frameC2.version = encoding.txfr.fc.extractLsb' 12 2 ∧
        addrModeBits frameC2.srcMode = encoding.txfr.fc.extractLsb' 14 2 ∧ frameC2.seq = encoding.txfr.seq ∧
        frameC2.dstPan = encoding.txfr.dstPan ∧ frameC2.srcPan = encoding.txfr.srcPan ∧
        frameC2.dstAddr = encoding.txfr.dstHi ++ encoding.txfr.dstLo ∧
        frameC2.srcAddr = encoding.txfr.srcHi ++ encoding.txfr.srcLo ∧
        frameC2.secHdr = encoding.txfr.secHi ++ encoding.txfr.secLo ∧
        frameC2.payload.length = frameC2.segLen.toNat) ∧
      (∀ k, k < frameC2.payload.length →
        byteAt frameC2.payload k = Memory.read encoding.reqmem ((65533#16).toNat + k)) ∧
      ((17#12).toNat ≤ 2048 ∧ expected frameC2 ≤ (17#12).toNat ∧
        (65533#16).toNat + frameC2.segLen.toNat ≤ 65536) ∧
      2048 < (2049#12).toNat ∧ (16#12).toNat < expected frameC2 ∧
      65536 < (65534#16).toNat + frameC2.segLen.toNat := by decide +kernel

theorem witness_PhycalcOperation :
    (withCtrl 0x4000).mac.tx = .none ∧ ((withCtrl 0x4000).txd.ctrl.extractLsb' 12 3).toNat ≤ 4 ∧
      4 < ((withCtrl 0x5000).txd.ctrl.extractLsb' 12 3).toNat := by decide +kernel

theorem witness_FallbackOperation : State.reset.mac.tx = .none := by decide +kernel

/-- The window at its lower and at its upper bound. -/
theorem witness_BackoffOperation :
    (withWindow 8).mac.tx = .none ∧ windowInv (withWindow 8) ∧ (withWindow 256).mac.tx = .none ∧
      windowInv (withWindow 256) :=
  ⟨by decide, ⟨by decide, by decide⟩, by decide, ⟨by decide, by decide⟩⟩

theorem witness_AccfailOperation : (withWindow 256).mac.tx = .none ∧ windowInv (withWindow 256) :=
  ⟨by decide +kernel, by decide +kernel, by decide +kernel⟩

theorem witness_AccokOperation : (withWindow 256).mac.tx = .none := by decide +kernel

theorem witness_CompensateOperation : State.reset.mac.tx = .none := by decide +kernel

/-- A step from a state of the invariant, and each way the window can decrease. -/
theorem witness_WindowLaw :
    windowInv (presentingWord 0x00000004) ∧ (∃ t, step (presentingWord 0x00000004) = .next t) ∧
    windowInv (withWindow 256) ∧
      (∀ i ∈ [Instr.reset false, Instr.set 0x04 2, Instr.accok],
        ∃ t, exec i (withWindow 256) = .next t ∧ t.csma.cw.toNat < (withWindow 256).csma.cw.toNat) ∧
      (let s := { withWindow 256 with mac := { MacBank.reset with tx := .sendOk } };
        ∃ t, exec .poll s = .next t ∧ t.csma.cw.toNat < s.csma.cw.toNat) ∧
      (let s := { withWindow 256 with csma := { CsmaBank.resetWith 256 with nbf := 29 } };
        ∃ t, exec (.accfail false) s = .next t ∧ t.csma.cw.toNat < s.csma.cw.toNat) ∧
      (let s :=
        { withWindow 256 with
          csma := { CsmaBank.resetWith 256 with nbf := 29 }, mac := { MacBank.reset with tx := .waitConfirm } };
        ∃ t, exec (.txcfm .busyOwnRx 0) s = .next t ∧ t.csma.cw.toNat < s.csma.cw.toNat) := by
  refine ⟨⟨by decide +kernel, by decide +kernel⟩, ?_, ⟨by decide +kernel, by decide +kernel⟩, ?_, ?_, ?_, ?_⟩
  · obtain ⟨t, h, -⟩ := next_of (step (presentingWord 0x00000004)) (fun _ => True) (by decide +kernel)
    exact ⟨t, h⟩
  · intro i hi
    exact next_of (exec i (withWindow 256)) (fun t => t.csma.cw.toNat < (withWindow 256).csma.cw.toNat) (by revert i; decide +kernel)
  · exact next_of _ (fun t => t.csma.cw.toNat < 256) (by decide +kernel)
  · exact next_of _ (fun t => t.csma.cw.toNat < 256) (by decide +kernel)
  · exact next_of _ (fun t => t.csma.cw.toNat < 256) (by decide +kernel)

/-- The last segment of V-S1; the empty segment at the end of the data; one byte of room for payload; a padding that
makes the frame as long as `TXBUF`. -/
theorem witness_NextsegBuilds :
    sending.mac.tx = .none ∧ sending.txd.modeReserved = false ∧
    (let u := sending.seek 2 212;
      overhead u.segHeader = 14 ∧ min 1023 (sending.snap.maxPhy.toNat - 14) = 106 ∧
        min 106 (sending.txd.len.toNat - (212#16).toNat) = 88 ∧ (212#16).toNat ≤ sending.txd.len.toNat ∧
        14 < sending.snap.maxPhy.toNat ∧ 14 + 88 + 0 ≤ 2048 ∧ 14 + 88 + 1946 = 2048) ∧
    (300#16).toNat ≤ sending.txd.len.toNat ∧ 14 < (15#16).toNat := by decide +kernel

theorem witness_SegmentHeader : sending.txd.modeReserved = false := by decide +kernel

/-- The four grounds, each at its bound, under a padding function that adds nothing and, for the last, one that adds one
byte too many. -/
theorem witness_NextsegRefuses :
    sending.mac.tx = .none ∧ (withCtrl 0x0100).txd.modeReserved = true ∧ sending.txd.len.toNat < (301#16).toNat ∧
      (let s := { sending with snap := { sending.snap with maxPhy := 14 } };
        s.snap.maxPhy.toNat ≤ overhead (s.seek 2 212).segHeader) ∧
      (let u := sending.seek 2 212;
        2048 < overhead u.segHeader + u.nextSegLen + (2049 - 102)) := by decide +kernel

theorem witness_SegdoneOperation : State.reset.mac.tx = .none := by decide +kernel

/-- One byte of room beside an overhead of 14, under a padding that is in general far too long for `TXBUF`. -/
theorem witness_SegmentsComplete :
    let s := { sending with snap := { sending.snap with maxPhy := 15 } }
    s.sess.segIndex = 0 ∧ s.sess.sentOffset = 0 ∧ overhead s.segHeader = 14 ∧
      overhead s.segHeader < s.snap.maxPhy.toNat ∧
      ∀ n : Nat, n ≤ 1057 → n ≤ s.snap.maxPhy.toNat → n + (fun (_ : SnapIn) (k : Nat) => 135 * k) s.snap.snapIn n ≤ 2048 :=
  ⟨by decide +kernel, by decide +kernel, by decide +kernel, by decide +kernel, fun n _ h => by
    have h : n ≤ 15 := h
    show n + 135 * n ≤ 2048
    omega⟩

theorem witness_UnitOperationsBusy : (active .start .idle 0 0).mac.tx ≠ .none := by decide +kernel

/-- The bounds of the implemented numbers, and the numbers next to them. -/
theorem witness_GetOperation :
    (∀ n ∈ [0x1A#8, 0x3F, 0x4D, 0x54, 0x57, 0x5B, 0x5F, 0x6A, 0x7F, 0x89, 0x9F, 0xAB, 0xBF, 0xCF, 0xFF],
      ¬ (n.toNat ≤ 0x19 ∨ (0x40 ≤ n.toNat ∧ n.toNat ≤ 0x53 ∧ n.toNat ≠ 0x4D) ∨
        (0x58 ≤ n.toNat ∧ n.toNat ≤ 0x5A) ∨ (0x60 ≤ n.toNat ∧ n.toNat ≤ 0x69) ∨
        (0x80 ≤ n.toNat ∧ n.toNat ≤ 0x88) ∨ (0xA0 ≤ n.toNat ∧ n.toNat ≤ 0xAA) ∨
        (0xC0 ≤ n.toNat ∧ n.toNat ≤ 0xCE))) ∧
    (∀ n ∈ [0x00#8, 0x19, 0x40, 0x4C, 0x4E, 0x53, 0x58, 0x5A, 0x60, 0x69, 0x80, 0x88, 0xA0, 0xAA, 0xC0, 0xCE],
      n.toNat ≤ 0x19 ∨ (0x40 ≤ n.toNat ∧ n.toNat ≤ 0x53 ∧ n.toNat ≠ 0x4D) ∨
        (0x58 ≤ n.toNat ∧ n.toNat ≤ 0x5A) ∨ (0x60 ≤ n.toNat ∧ n.toNat ≤ 0x69) ∨
        (0x80 ≤ n.toNat ∧ n.toNat ≤ 0x88) ∨ (0xA0 ≤ n.toNat ∧ n.toNat ≤ 0xAA) ∨
        (0xC0 ≤ n.toNat ∧ n.toNat ≤ 0xCE)) ∧
    ((.status .nb, 0x45#8, 0#32) ∈ registerMap State.reset ∧ (registerMap State.reset).length = 92) := by decide +kernel

/-- `MIN_BE` set to `MAX_BE`, `MAX_BE` set to `MIN_BE` (with bits above the field), and a register of each other bank. -/
theorem witness_SetOperation :
    State.reset.mac.tx = .none ∧ regWritable (.cfg .minBE) = true ∧ (8#32).toNat % 16 ≤ State.reset.cfg.maxBE.toNat ∧
      regWritable (.cfg .maxBE) = true ∧ State.reset.cfg.minBE.toNat ≤ (0x13#32).toNat % 16 ∧
      regWritable (.txd .ctrl) = true ∧ regWritable (.txfr .fc) = true ∧
      (Reg.txd .ctrl ≠ .cfg .minBE ∧ Reg.txd .ctrl ≠ .cfg .maxBE ∧ Reg.txfr .fc ≠ .cfg .minBE ∧
        Reg.txfr .fc ≠ .cfg .maxBE) := by decide +kernel

/-- An unimplemented number between two banks and one past a bank; the refusals in their order; answers `ERR_RO` and
another, the first and the last `RO` number. -/
theorem witness_SetRefuses :
    ((∀ r, regNum r ≠ 0x4D#8) ∧ (∀ r, regNum r ≠ 0x1A#8)) ∧ regWritable (.status .cw) = false ∧
      (regWritable (.cfg .panId) = true ∧ (active .start .idle 0 0).mac.tx ≠ .none) ∧ State.reset.mac.tx = .none ∧
      State.reset.cfg.maxBE.toNat < (9#32).toNat % 16 ∧ (2#32).toNat % 16 < State.reset.cfg.minBE.toNat ∧
      (∃ t, exec (.set 0x40#8 0) State.reset = .next t ∧ t.response = some 4#32) ∧
      (∃ t, exec (.set 0xCE#8 0) State.reset = .next t ∧ t.response = some 4#32) ∧
      (∃ t, exec (.set 0xAA#8 0) State.reset = .next t ∧ t.response = some 0#32) := by
  refine ⟨⟨?_, ?_⟩, by decide +kernel, by decide +kernel, by decide +kernel, by decide +kernel, by decide +kernel, ?_, ?_, ?_⟩
  · intro r
    rcases r with r | r | r | r | r | r | r | r <;> cases r <;> decide
  · intro r
    rcases r with r | r | r | r | r | r | r | r <;> cases r <;> decide
  · exact next_of _ (fun t => t.response = some 4#32) (by decide +kernel)
  · exact next_of _ (fun t => t.response = some 4#32) (by decide +kernel)
  · exact next_of _ (fun t => t.response = some 0#32) (by decide +kernel)

theorem witness_TxreqOperation :
    (active .bigFail .idle 0 0).mac.tx ≠ .none ∧ State.reset.mac.tx = .none ∧
      (withCtrl 0x0100).txd.ctrl.extractLsb' 8 2 = 1#2 ∧ (withCtrl 0x0400).txd.ctrl.extractLsb' 10 2 = 1#2 ∧
      4 < ((withCtrl 0x5000).txd.ctrl.extractLsb' 12 3).toNat ∧
      ((withCtrl 0x4B00).txd.ctrl.extractLsb' 8 2 ≠ 1#2 ∧ (withCtrl 0x4B00).txd.ctrl.extractLsb' 10 2 ≠ 1#2 ∧
        ((withCtrl 0x4B00).txd.ctrl.extractLsb' 12 3).toNat ≤ 4) := by decide +kernel

/-- Each timed state one tick before its duration and at it, the entry time shortly before the clock wraps. -/
theorem witness_OccupancyTick :
    State.reset.mac.occ = .idle ∧
    ∀ p ∈ [(Occ.eifs, boot.eifsTime), (.cifs, boot.cifsTime), (.rcifs, boot.rcifsTime), (.cp, boot.cpTime),
        (.rifs, boot.rifsTime + boot.ackTime + boot.cifsTime)],
      let d := p.2.toNat
      let before := active .none p.1 0xFFFFFFFF (p.2 - 2)
      let at' := active .none p.1 0xFFFFFFFF (p.2 - 1)
      before.mac.occ = p.1 ∧ at'.mac.occ = p.1 ∧
        (before.now.toNat + 2 ^ 32 - before.mac.occEntered.toNat) % 2 ^ 32 < d ∧
        d ≤ (at'.now.toNat + 2 ^ 32 - at'.mac.occEntered.toNat) % 2 ^ 32 := by decide +kernel

theorem witness_PollWithoutTransmit :
    State.reset.mac.tx = .none ∧ (active .waitConfirm .idle 0 0).mac.tx = .waitConfirm := by decide +kernel

theorem witness_PollStart :
    (activeCtrl .start 0x4000).mac.tx = .start ∧
      modBits .qam16 = (activeCtrl .start 0x4000).txd.ctrl.extractLsb' 12 3 := by decide +kernel

/-- A broadcast destination; and two that are none: an extended mode, and an address one below. -/
theorem witness_PollCsmaCa :
    let s := { activeCtrl .csmaCa 0x0200 with txd := { TxdBank.reset with ctrl := 0x0200, dstLo := 0x1FFFF } }
    s.mac.tx = .csmaCa ∧ (s.txd.ctrl.extractLsb' 8 2 = 2#2 ∧ s.txd.dstLo.extractLsb' 0 16 = 0xFFFF#16) ∧
      (activeCtrl .csmaCa 0x0300).txd.ctrl.extractLsb' 8 2 ≠ 2#2 ∧
      (0xFFFE#32).extractLsb' 0 16 ≠ 0xFFFF#16 := by decide +kernel

/-- Immediate; idle; in the contention period with just enough of it left, the send time past (V-M9's neighbour) and not
past; with one tick too little; and an occupancy that does not permit it, on a frame beyond `TXBUF`. -/
theorem witness_PollWaitSend :
    (active .waitSend .idle 0 0).sess.txLen.toNat ≤ 2048 ∧ ({ SessBank.reset with txLen := 2048 }).txLen.toNat ≤ 2048 ∧
    ({ active .waitSend .idle 0 0 with
        mac := { MacBank.reset with tx := .waitSend, immediate := true } }).mac.immediate = true ∧
    ((active .waitSend .idle 0 0).mac.immediate = false ∧ (active .waitSend .idle 0 0).occTick.mac.occ = .idle) ∧
    (let u := (active .waitSend .cp 10000 13600).occTick;
      u.mac.tx = .waitSend ∧ u.mac.occ = .cp ∧ u.mac.immediate = false ∧
        boot.leadTime.toNat + (13600 + 2 ^ 32 - u.mac.occEntered.toNat) % 2 ^ 32 ≤ boot.cpTime.toNat ∧
        ((u.mac.occEntered + u.csma.periodWait + u.csma.backoff) - 13600#32).getLsbD 31 = true) ∧
    (let u := (active .waitSend .cp 10000 10000).occTick;
      u.mac.occ = .cp ∧ ((u.mac.occEntered + u.csma.periodWait + u.csma.backoff) - 10000#32).getLsbD 31 = false) ∧
    (let u := (active .waitSend .cp 10000 13601).occTick;
      u.mac.occ ≠ .idle ∧
        (u.mac.occ = .cp → boot.cpTime.toNat <
          boot.leadTime.toNat + (13601 + 2 ^ 32 - u.mac.occEntered.toNat) % 2 ^ 32)) ∧
    (let s := { active .waitSend .eifs 0 0 with sess := { SessBank.reset with txLen := 2049 } };
      s.mac.tx = .waitSend ∧ s.mac.immediate = false ∧ s.occTick.mac.occ = .eifs ∧ 2048 < s.sess.txLen.toNat) := by
  decide +kernel

/-- The attempt limit reached and one below it; the acknowledgement wait at its end and one tick before; an empty budget
and one retry. -/
theorem witness_PollRetryStates :
    (let s := { active .failCsmaCa .idle 0 0 with csma := { CsmaBank.resetWith 8 with nb := 50 } };
      s.mac.tx = .failCsmaCa ∧ s.cfg.maxCsmaBackoffs.toNat ≤ s.csma.nb.toNat) ∧
    (let s := { active .failCsmaCa .idle 0 0 with csma := { CsmaBank.resetWith 8 with nb := 49 } };
      s.csma.nb.toNat < s.cfg.maxCsmaBackoffs.toNat) ∧
    (active .waitAck .rifs 0 1500).mac.tx = .waitAck ∧
    (active .littleFail .idle 0 0).mac.tx = .littleFail ∧ (active .littleFail .idle 0 0).sess.retriesLeft = 0 ∧
    ({ active .littleFail .idle 0 0 with sess := { SessBank.reset with retriesLeft := 1 } }).sess.retriesLeft ≠ 0 := by
  decide +kernel

/-- All sent; one byte more with segment numbers left, and with none left. -/
theorem witness_PollSendOk :
    (active .sendOk .idle 0 0).mac.tx = .sendOk ∧
    (let s := { sending with sess := { SessBank.reset with sentOffset := 212, segLen := 88 } };
      s.txd.len.toNat ≤ (s.sess.sentOffset + BitVec.ofNat 16 s.sess.segLen.toNat).toNat) ∧
    (let s := { sending with sess := { SessBank.reset with sentOffset := 212, segLen := 87, segIndex := 62 } };
      (s.sess.sentOffset + BitVec.ofNat 16 s.sess.segLen.toNat).toNat < s.txd.len.toNat ∧ s.sess.segIndex ≠ 63) ∧
    ({ SessBank.reset with segIndex := 63 }).segIndex = 63#6 := by decide +kernel

/-- An empty budget; one retry left, the modulation forced, fallen to ROBUST, and fallen by one notch. -/
theorem witness_PollBigFail :
    (active .bigFail .idle 0 0).mac.tx = .bigFail ∧ (active .bigFail .idle 0 0).sess.retriesLeft = 0 ∧
      (1#8 ≠ 0 ∧ 0#8 = BitVec.ofNat 8 ((1#8).toNat - 1)) ∧ (activeCtrl .bigFail 4).txd.ctrl.getLsbD 2 = true ∧
      (0#8).toNat < (active .bigFail .idle 0 0).cfg.robustBelow.toNat ∧
      ¬ (2#8).toNat < (active .bigFail .idle 0 0).cfg.robustBelow.toNat ∧
      (modBits .qpsk).toNat = (modBits .psk8).toNat - 1 ∧ (modBits .robust).toNat = 0 := by decide +kernel

/-- `START` with the greatest accepted and the least refused `MOD_TYPE`. `WAIT_SEND` that sends: at once, in `IDLE`, and
in `CP` with just the lead time left; and one tick later, when it does not. The greatest length in `TXBUF` and one more. -/
theorem witness_PollCompletes :
    (activeCtrl .start 0x4000).mac.tx = .start ∧ ((activeCtrl .start 0x4000).txd.ctrl.extractLsb' 12 3).toNat ≤ 4 ∧
      4 < ((activeCtrl .start 0x5000).txd.ctrl.extractLsb' 12 3).toNat ∧
      (active .waitSend .idle 0 0).mac.tx = .waitSend ∧ ({ SessBank.reset with txLen := 2048 }).txLen.toNat ≤ 2048 ∧
      2048 < ({ SessBank.reset with txLen := 2049 }).txLen.toNat ∧
      ({ MacBank.reset with tx := .waitSend, immediate := true }).immediate = true ∧
      (active .waitSend .idle 0 0).occTick.mac.occ = .idle ∧
      (let s := active .waitSend .cp 10000 13600;
        s.mac.tx = .waitSend ∧ s.occTick.mac.occ = .cp ∧
          s.cfg.leadTime.toNat + (s.now.toNat + 2 ^ 32 - s.occTick.mac.occEntered.toNat) % 2 ^ 32 ≤ s.cfg.cpTime.toNat) ∧
      (let s := active .waitSend .cp 10000 13601;
        s.mac.tx = .waitSend ∧ ¬ (s.mac.immediate = true ∨ s.occTick.mac.occ = .idle ∨
          s.occTick.mac.occ = .cp ∧
            s.cfg.leadTime.toNat + (s.now.toNat + 2 ^ 32 - s.occTick.mac.occEntered.toNat) % 2 ^ 32 ≤
              s.cfg.cpTime.toNat)) := by
  decide +kernel

/-- A `POLL` that emits one effect. -/
theorem witness_PollEmissions :
    ∃ t, exec .poll (active .waitSend .idle 0 0) = .next t ∧ (newEffects (active .waitSend .idle 0 0) t).length = 1 := by
  exact next_of (exec .poll (active .waitSend .idle 0 0))
    (fun t => (newEffects (active .waitSend .idle 0 0) t).length = 1) (by decide +kernel)

theorem witness_TxcfmSuccess :
    (activeCtrl .waitConfirm 1).mac.tx = .waitConfirm ∧ (activeCtrl .waitConfirm 1).txd.ctrl.getLsbD 0 = true ∧
      (activeCtrl .waitConfirm 0).txd.ctrl.getLsbD 0 = false := by decide +kernel

/-- A busy status, the failures at the fairness limit and one above it. -/
theorem witness_TxcfmBusy :
    (active .waitConfirm .idle 0 0).mac.tx = .waitConfirm ∧ windowInv (active .waitConfirm .idle 0 0) ∧
      min ((24#8).toNat + 1) 255 ≤ boot.fairLimit.toNat ∧ boot.fairLimit.toNat < min ((25#8).toNat + 1) 255 :=
  ⟨by decide +kernel, ⟨by decide +kernel, by decide +kernel⟩, by decide +kernel, by decide +kernel⟩

theorem witness_TxcfmFatalOrStray :
    (active .waitConfirm .idle 0 0).mac.tx = .waitConfirm ∧ (active .waitAck .idle 0 0).mac.tx ≠ .waitConfirm ∧
      (PhyStatus.busyOwnTx = .busyOwnTx ∧ TxOutcome.transactionOverflow = .transactionOverflow) ∧
      (∃ code, PhyStatus.unknown 4 = .unknown code) ∧ TxOutcome.denied = .denied :=
  ⟨by decide +kernel, by decide +kernel, by decide +kernel, ⟨4, rfl⟩, rfl⟩

theorem witness_RxindRejected :
    2048 < (2049#12).toNat ∧ (17#12).toNat ≤ 2048 ∧
      decodeFrame (Memory.readRun (idleWith (bytesC2.set 0 0x81)).rxbuf 0 (17#12).toNat) = .reject .badCrc ∧
      decodeFrame (Memory.readRun (idleWith bytesC2).rxbuf 0 (7#12).toNat) = .reject .short := by decide +kernel

/-- V-C2 at a node whose short address it names (passed, unicast), and at another node (not passed). -/
theorem witness_RxindAccepted :
    (17#12).toNat ≤ 2048 ∧ bytesC2 = Memory.readRun (idleWith bytesC2).rxbuf 0 (17#12).toNat ∧
      decodeFrame bytesC2 = .ok frameC2 0 ∧
      ((frameC2.dstPan = boot.panId ∨ frameC2.dstPan = 0xFFFF#16) ∧
        frameC2.dstMode = .short ∧ frameC2.dstAddr.extractLsb' 0 16 = ({ boot with shortAddr := 2 }).shortAddr ∧
        ({ boot with shortAddr := 2 }).shortAddr ≠ 0xFFFF#16) ∧
      ¬ (frameC2.dstAddr.extractLsb' 0 16 = boot.shortAddr ∨ frameC2.dstAddr.extractLsb' 0 16 = 0xFFFF#16) := by
  decide +kernel

/-- A move of the table, and the confirm that comes with it. -/
theorem witness_TransitionTable :
    ∃ t, exec .txreq State.reset = .next t ∧ t.mac.tx = .start := by
  exact next_of (exec .txreq State.reset) (fun t => t.mac.tx = .start) (by decide +kernel)

theorem witness_ConfirmAtTheEnd :
    (∃ t, exec .poll (active .sendOk .idle 0 0) = .next t ∧ t.mac.tx = .none) ∧
      (active .sendOk .idle 0 0).mac.tx ≠ .none ∧ (∀ clr, Instr.poll ≠ .reset clr) ∧
      (∃ t, exec .poll (active .waitSend .idle 0 0) = .next t ∧ t.mac.tx ≠ .none) ∧
      (∃ t, exec (.reset true) (active .sendOk .idle 0 0) = .next t ∧ t.mac.tx = .none) := by
  refine ⟨?_, by decide +kernel, by decide +kernel, ?_, ?_⟩
  · exact next_of (exec .poll (active .sendOk .idle 0 0)) (fun t => t.mac.tx = .none) (by decide +kernel)
  · exact next_of (exec .poll (active .waitSend .idle 0 0)) (fun t => t.mac.tx ≠ .none) (by decide +kernel)
  · exact next_of (exec (.reset true) (active .sendOk .idle 0 0)) (fun t => t.mac.tx = .none) (by decide +kernel)

/-- A request waiting for an acknowledgement that is presented it and then polled. -/
def lastSteps : State :=
  { active .waitAck .rifs 0 0 with
    inputs := [.command 1 0 ⟨0x00000212, 0, 0⟩, .command 2 0 ⟨0x00000005, 0, 0⟩] }

/-- A run of two steps that ends a request; a `RESET` that ends one; a `TXREQ` (`witness_TransitionTable` has it accepted). -/
theorem witness_OneConfirmPerRequest :
    lastSteps.mac.tx ≠ .none ∧ (∀ k w, k ≤ 1 → stateAfter k lastSteps = some w → w.mac.tx ≠ .none) ∧
      (∃ u, stateAfter 1 lastSteps = some u ∧ nextIsReset u = false ∧
        ∃ t, step u = .next t ∧ t.mac.tx = .none) ∧
      (let r := { active .waitAck .rifs 0 0 with inputs := [.command 0 0 ⟨0x00000001, 0, 0⟩] };
        stateAfter 0 r = some r ∧ nextIsReset r = true ∧ ∃ t, step r = .next t ∧ t.mac.tx = .none) := by
  have h : ∀ k, k ≤ 1 → (stateAfter k lastSteps).all (fun w => decide (w.mac.tx ≠ .none)) = true := by
    decide +kernel
  refine ⟨by decide +kernel, fun k w hk hw => ?_, ?_, rfl, by decide +kernel,
    next_of _ (fun t => t.mac.tx = .none) (by decide +kernel)⟩
  · have := h k hk
    rw [hw] at this
    simpa using this
  · have h1 : (stateAfter 1 lastSteps).map
        (fun u => (nextIsReset u, (nextOf (step u)).map (fun t => decide (t.mac.tx = .none)))) =
          some (false, some true) := by decide +kernel
    cases hu : stateAfter 1 lastSteps with
    | none => simp [hu] at h1
    | some u =>
      rw [hu] at h1
      simp only [Option.map_some, Option.some.injEq, Prod.mk.injEq] at h1
      exact ⟨u, rfl, h1.1, by exact next_of (step u) (fun t => t.mac.tx = .none) h1.2⟩

theorem witness_ErrorsChangeNothing :
    ∃ t, exec (.crc16 2049) State.reset = .next t ∧ t.response = some 3 ∧ (3#32).extractLsb' 0 8 ≠ 0#8 := by
  exact next_of (exec (.crc16 2049) State.reset) (fun t => t.response = some 3 ∧ (3#32).extractLsb' 0 8 ≠ 0#8)
    (by decide +kernel)

theorem witness_LockAndSnapshot :
    (∃ t, exec (.set 0x07 1) (active .start .idle 0 0) = .next t) ∧ (active .start .idle 0 0).mac.tx ≠ .none ∧
      (∀ clr, Instr.set 0x07 1 ≠ .reset clr) ∧
      (let s := { State.reset with snap := { SnapBank.reset with modType := .psk8 } };
        ∃ t, exec (.reset false) s = .next t ∧ t.snap ≠ s.snap) := by
  refine ⟨?_, by decide +kernel, by decide +kernel, ?_⟩
  · obtain ⟨t, h, -⟩ := next_of (exec (.set 0x07 1) (active .start .idle 0 0)) (fun _ => True) (by decide +kernel)
    exact ⟨t, h⟩
  · exact next_of (exec (.reset false) { State.reset with snap := { SnapBank.reset with modType := .psk8 } })
      (fun t => t.snap ≠ { SnapBank.reset with modType := .psk8 }) (by decide +kernel)

/-- An operation that writes `TXBUF`, and one that writes no memory. -/
theorem witness_MemoryWriters :
    (let s := { State.reset with txfr := FrameBank.ofFrame { frameC2 with segLen := 0, payload := [] } };
      ∃ t, exec (.encode 14 0) s = .next t ∧ t.sess.txLen.toNat ≤ 14) ∧
    (∀ clr, Instr.encode 14 0 ≠ .reset clr) ∧ (∃ t, exec .accok State.reset = .next t) ∧
      (∀ clr, Instr.accok ≠ .reset clr) ∧ (∀ len off, Instr.accok ≠ .encode len off) ∧
      (∀ seg off, Instr.accok ≠ .nextseg seg off) ∧ Instr.accok ≠ .poll := by
  refine ⟨?_, by simp, ?_, by simp, by simp, by simp, by simp⟩
  · exact next_of _ (fun t => t.sess.txLen.toNat ≤ 14) (by decide +kernel)
  · obtain ⟨t, h, -⟩ := next_of (exec .accok State.reset) (fun _ => True) (by decide +kernel)
    exact ⟨t, h⟩

/-- A request waiting in `WAIT_SEND` to be sent at once, with `TXBUF` used to its end. -/
def sendingNow : State :=
  { presenting (.command 5 0 ⟨0x00000005, 0, 0⟩) with
    mac := { MacBank.reset with tx := .waitSend, immediate := true, compPending := true, compNbf := true }
    sess := { SessBank.reset with txLen := 2048 } }

theorem witness_StepTotal : Inv sendingNow where
  txbuf := ⟨by decide +kernel, by decide +kernel⟩
  rxbuf := ⟨by decide +kernel, by decide +kernel⟩
  reqmem := ⟨by decide +kernel, by decide +kernel⟩
  window := ⟨by decide +kernel, by decide +kernel⟩
  onAir := by decide +kernel
  txfrReserved := by unfold fcReservedClear; decide +kernel
  rxfrReserved := by unfold fcReservedClear; decide +kernel
  descriptor := by decide +kernel
  pendingActive := by decide +kernel
  nbfPending := by decide +kernel
  immediateSend := by decide +kernel

theorem witness_StepKeepsInvariant : Inv sendingNow ∧ ∃ t, step sendingNow = .next t ∧ t.mac.tx = .waitConfirm :=
  ⟨witness_StepTotal, next_of (step sendingNow) (fun t => t.mac.tx = .waitConfirm) (by decide +kernel)⟩

end Sys2Proof.Tests
end

/-! The family of `00_scope.md` (R6): a step runs the decoded operation, `POLL` completes but in two
kinds of state, and no state of the invariant stops. -/

namespace Sys2Proof.Machine

/-! ## What a `POLL` leaves unchanged -/

/-- `t` differs from `s` only where a `POLL` may write: the tags, the backoff engine, the session but for `TX_TIME`, `DSN`
and `REQ_SEQ`, the snapshot, TXFR with `TXBUF`, and the outputs of the step (R220). -/
def PollFrame (s t : State) : Prop :=
  t =
    { s with
      mac := t.mac
      csma := t.csma
      sess := { t.sess with txTime := s.sess.txTime, dsn := s.sess.dsn, reqSeq := s.sess.reqSeq }
      snap := t.snap
      txfr := t.txfr
      txbuf := t.txbuf
      response := t.response
      effects := t.effects }

theorem PollFrame.refl (s : State) : PollFrame s s := rfl

theorem PollFrame.trans {s t u : State} (hst : PollFrame s t) (htu : PollFrame t u) : PollFrame s u := by
  unfold PollFrame at htu
  rw [hst] at htu
  exact htu

theorem pollFrame_occTick (s : State) : PollFrame s s.occTick := by
  obtain ⟨o, w, ho⟩ := occTick_shape s
  rw [ho]
  rfl

theorem pollFrame_conclude (s : State) (o : TxOutcome) : PollFrame s (s.conclude o) := rfl

theorem pollFrame_setTx (s : State) (x : TxSub) : PollFrame s (s.setTx x) := rfl

theorem pollFrame_pollAnswer (s : State) : PollFrame s s.pollAnswer := rfl

theorem Built.pollFrame {s w : State} (h : Built s w) : PollFrame s w := by
  obtain ⟨b, -, rfl⟩ := h
  rfl

theorem pollFrame_applyFallback (s : State) : PollFrame s s.applyFallback := by
  rcases applyFallback_shape s with h | ⟨b, h⟩
  · rw [h]
    exact PollFrame.refl s
  · rw [h]
    rfl

theorem pollFrame_tickStart (s u : State) (h : tickStart s = .next u) : PollFrame s u := by
  obtain ⟨b, v, -, hv, hu⟩ := tickStart_cases s u h
  have hsv : PollFrame s v := by
    rw [hv]
    rfl
  rcases hu with rfl | ⟨w, hw, rfl⟩
  · exact hsv.trans (pollFrame_conclude v _)
  · exact (hsv.trans hw.pollFrame).trans (pollFrame_setTx w _)

theorem pollFrame_tickWaitSend (s u : State) (h : tickWaitSend s = .next u) : PollFrame s u := by
  rcases tickWaitSend_cases s u h with ⟨-, rfl⟩ | ⟨time, sense, -, rfl⟩
  · exact PollFrame.refl u
  · rfl

theorem pollFrame_tickFailCsmaCa (s : State) : PollFrame s (tickFailCsmaCa s) := by
  unfold tickFailCsmaCa
  split
  · exact pollFrame_conclude s _
  · split
    · exact pollFrame_setTx s _
    · exact pollFrame_setTx s _

theorem pollFrame_tickWaitAck (s : State) : PollFrame s (tickWaitAck s) := by
  unfold tickWaitAck
  split
  · exact pollFrame_setTx s _
  · exact PollFrame.refl s

theorem pollFrame_tickSendOk (s : State) : PollFrame s (tickSendOk s) := by
  have hn : PollFrame s s.segDone.nextIndex := rfl
  rcases tickSendOk_cases s with h | h | ⟨w, hw, h⟩ | h <;> rw [h]
  · rfl
  · exact hn.trans (pollFrame_conclude _ _)
  · exact (hn.trans hw.pollFrame).trans rfl
  · rfl

theorem pollFrame_tickLittleFail (s : State) : PollFrame s (tickLittleFail s) := by
  unfold tickLittleFail
  split
  · exact pollFrame_conclude s _
  · rfl

theorem pollFrame_tickBigFail (s : State) : PollFrame s (tickBigFail s) := by
  rcases tickBigFail_cases s with h | ⟨v, hv, h⟩
  · rw [h]
    exact pollFrame_conclude s _
  · have hr : PollFrame s (s.setRetries (s.sess.retriesLeft - 1#8)) := rfl
    have hsv : PollFrame s v := by
      rw [hv]
      exact hr.trans (pollFrame_applyFallback _)
    rcases h with h | ⟨w, hw, h⟩ <;> rw [h]
    · exact hsv.trans (pollFrame_conclude v _)
    · exact (hsv.trans hw.pollFrame).trans rfl

theorem pollFrame_txTick (s u : State) (h : txTick s = .next u) : PollFrame s u := by
  unfold txTick at h
  rcases hx : s.mac.tx <;> rw [hx] at h <;> dsimp only at h
  case start => exact pollFrame_tickStart s u h
  case waitSend => exact pollFrame_tickWaitSend s u h
  all_goals obtain rfl := Host.Outcome.next.inj h
  case none => exact PollFrame.refl s
  case csmaCa => rfl
  case waitConfirm => exact PollFrame.refl s
  case failCsmaCa => exact pollFrame_tickFailCsmaCa s
  case waitAck => exact pollFrame_tickWaitAck s
  case sendOk => exact pollFrame_tickSendOk s
  case littleFail => exact pollFrame_tickLittleFail s
  case bigFail => exact pollFrame_tickBigFail s

theorem poll_pollFrame (s t : State) (h : exec .poll s = .next t) : PollFrame s t := by
  obtain ⟨u, hu, rfl⟩ := poll_cases s t h
  exact ((pollFrame_occTick s).trans (pollFrame_txTick _ u hu)).trans (pollFrame_pollAnswer u)

/-! ## What a `POLL` answers -/

/-- `STATE` as the 24-bit result is the low part of `STATE` as a register (R35, R220). -/
theorem pollAnswer_response (u : State) :
    u.pollAnswer.response =
      some (rspWord .ok (BitVec.ofNat 24 (u.pollAnswer.readReg (.status .state)).toNat)) := by
  have hstate : u.mac.stateBits.setWidth 24 = BitVec.ofNat 24 (u.mac.stateBits.setWidth 32).toNat := by
    apply BitVec.eq_of_toNat_eq
    have := u.mac.stateBits.isLt
    rw [BitVec.toNat_ofNat, BitVec.toNat_setWidth, BitVec.toNat_setWidth]
    omega
  show some (rspWord .ok (u.mac.stateBits.setWidth 24)) = _
  rw [hstate]
  rfl

/-! ## Where a `POLL` completes and where it stops -/

@[simp] theorem occTick_tx (s : State) : s.occTick.mac.tx = s.mac.tx := by
  obtain ⟨o, w, ho⟩ := occTick_shape s
  rw [ho]

@[simp] theorem occTick_sess (s : State) : s.occTick.sess = s.sess := by
  obtain ⟨o, w, ho⟩ := occTick_shape s
  rw [ho]

@[simp] theorem occTick_txd (s : State) : s.occTick.txd = s.txd := by
  obtain ⟨o, w, ho⟩ := occTick_shape s
  rw [ho]

/-- The modulation types are the hints 0 to 4 (R34). -/
theorem modOf_eq_none_iff (b : BitVec 3) : modOf b = none ↔ 4 < b.toNat := by
  revert b
  decide

theorem poll_fault (s : State) (r : Fault) (h : txTick s.occTick = .fault r) : exec .poll s = .fault r := by
  show execPoll s = _
  rw [execPoll, h]

/-- Where `START` stops: no modulation type can be loaded (log entry 10). -/
theorem tickStart_stops (s : State) (h : modOf s.txd.modTypeBits = none) : tickStart s = .fault .reservedModType := by
  unfold tickStart State.loadedSnap
  rw [h]

theorem poll_start_stops (s : State) (hx : s.mac.tx = .start) (hm : modOf s.txd.modTypeBits = none) :
    exec .poll s = .fault .reservedModType := by
  apply poll_fault
  unfold txTick
  rw [occTick_tx, hx]
  exact tickStart_stops _ (by rwa [occTick_txd])

theorem poll_waitSend_stops (s : State) (hx : s.mac.tx = .waitSend) (hs : s.occTick.sendTime ≠ none)
    (hl : 2048 < s.sess.txLen.toNat) : exec .poll s = .fault .txLenBeyondTxbuf := by
  apply poll_fault
  unfold txTick
  rw [occTick_tx, hx]
  exact tickWaitSend_stops _ hs (by rwa [occTick_sess])

/-- A `POLL` gives a next state outside the two kinds of state it stops in. -/
theorem poll_completes (s : State) (hstart : s.mac.tx = .start → modOf s.txd.modTypeBits ≠ none)
    (hsend : s.mac.tx = .waitSend → s.occTick.sendTime ≠ none → s.sess.txLen.toNat ≤ 2048) :
    ∃ t, exec .poll s = .next t := by
  obtain ⟨u, hu⟩ := txTick_next s.occTick
    (fun hx hs => by
      rw [occTick_tx] at hx
      rw [occTick_sess]
      exact hsend hx hs)
    (fun hx => by
      rw [occTick_tx] at hx
      rw [occTick_txd]
      exact hstart hx)
  exact ⟨u.pollAnswer, poll_next s u hu⟩

/-! ## The operations are total -/

theorem unitOp_completes (s : State) (f : State → State) : ∃ t, unitOp s f = .next t := by
  by_cases hb : s.mac.tx = .none
  · exact ⟨_, unitOp_idle s f hb⟩
  · exact ⟨_, unitOp_busy s f hb⟩

theorem execSet_completes (reg : BitVec 8) (value : Word) (s : State) : ∃ t, execSet reg value s = .next t := by
  unfold execSet
  split
  · exact ⟨_, rfl⟩
  · split
    · exact ⟨_, rfl⟩
    · split
      · exact ⟨_, rfl⟩
      · split
        · exact ⟨_, rfl⟩
        · exact ⟨_, rfl⟩

theorem execTxreq_completes (s : State) : ∃ t, execTxreq s = .next t := by
  unfold execTxreq
  split
  · exact ⟨_, rfl⟩
  · split
    · exact ⟨_, rfl⟩
    · exact ⟨_, rfl⟩

theorem execRxind_completes (len : BitVec 12) (ack : Bool) (time : Word) (s : State) :
    ∃ t, execRxind len ack time s = .next t := by
  unfold execRxind
  split
  · exact ⟨_, rfl⟩
  · exact ⟨_, rfl⟩

/-- `POLL` is the only operation that can stop. -/
theorem exec_completes (i : Instr) (s : State) (hpoll : i = .poll → ∃ t, exec .poll s = .next t) :
    ∃ t, exec i s = .next t := by
  cases i with
  | poll => exact hpoll rfl
  | reset clr => exact ⟨_, rfl⟩
  | get reg => exact ⟨_, rfl⟩
  | set reg value => exact execSet_completes reg value s
  | txreq => exact execTxreq_completes s
  | txcfm status time => exact ⟨_, rfl⟩
  | rxind len ack time => exact execRxind_completes len ack time s
  | ackind delim sub fcs => exact ⟨_, rfl⟩
  | crc16 | hdrlen | decode | encode =>
    simp only [exec, execCrc16, execHdrlen, execDecode, execEncode, unitOp_completes]
  | phycalc | backoff | accfail | accok | compensate =>
    simp only [exec, execPhycalc, execBackoff, execAccfail, execAccok, execCompensate, unitOp_completes]
  | nextseg | segdone | fallback =>
    simp only [exec, execNextseg, execSegdone, execFallback, unitOp_completes]

/-- An active request has an accepted descriptor, and a frame to send fits `TXBUF`: `POLL` completes (R205, R60). -/
theorem poll_completes_of_accepted (s : State) (hdesc : s.mac.tx ≠ .none → s.txd.unacceptable = false)
    (hlen : s.sess.txLen.toNat ≤ 2048) : ∃ t, exec .poll s = .next t := by
  refine poll_completes s (fun hx => ?_) (fun _ _ => hlen)
  have hacc : s.txd.unacceptable = false := hdesc (by rw [hx]; decide)
  obtain ⟨-, hmod⟩ := Bool.or_eq_false_iff.1 hacc
  exact of_decide_eq_false hmod

/-! ## One step -/

theorem step_of_decode (s : State) (now : Word) (rnd : BitVec 16) (c : Command) (rest : List Input) (i : Instr)
    (hi : s.inputs = .command now rnd c :: rest) (hd : Sys2Proof.decode c = some i) :
    step s = exec i ((s.takeTurn rest).sample now rnd) := by
  unfold step
  simp only [hi, hd]

theorem step_completes (s : State)
    (hexec : ∀ i now rnd rest, ∃ t, exec i ((s.takeTurn rest).sample now rnd) = .next t) : ∃ t, step s = .next t := by
  unfold step
  split
  · exact ⟨_, rfl⟩
  · exact ⟨_, rfl⟩
  · exact ⟨_, rfl⟩
  · split
    · exact hexec _ _ _ _
    · exact ⟨_, rfl⟩

/-! ## The obligations -/

/-- Settles O4: the state the decoded operation runs on is the one that has taken the turn and sampled the draws. -/
theorem stepRunsDecoded : Obligations.StepRunsDecoded := by
  intro s now rnd c rest i hi hd
  exact step_of_decode s now rnd c rest i hi hd

/-- Settles O60: only `POLL` can stop, and in a state of the invariant the descriptor of an active request is accepted and
`TX_LEN` is inside `TXBUF`; taking a turn and sampling the draws touch neither. -/
theorem stepTotal : Obligations.StepTotal := by
  intro s hs
  exact step_completes s fun i now rnd rest =>
    exec_completes i _ fun _ => poll_completes_of_accepted _ hs.descriptor hs.onAir

/-- Settles O44: `txTick` sub-state by sub-state for the frame, and the two stops from the sub-states that raise them. -/
theorem pollCompletes : Obligations.PollCompletes := by
  intro s e sends he hsends
  have hsend : s.occTick.sendTime ≠ none ↔ sends := by
    rw [sendTime_occTick_ne_none, elapsed_toNat, ← he, hsends]
  refine ⟨fun hstart hlen => ?_, fun hx hm => ?_, fun hx hl hsd => ?_⟩
  · obtain ⟨t, ht⟩ := poll_completes s
      (fun hx hm => Nat.not_lt.2 (hstart hx) ((modOf_eq_none_iff _).1 hm))
      (fun hx hs => hlen hx (hsend.1 hs))
    refine ⟨t, ht, ?_, poll_pollFrame s t ht⟩
    obtain ⟨u, -, rfl⟩ := poll_cases s t ht
    exact pollAnswer_response u
  · exact poll_start_stops s hx ((modOf_eq_none_iff _).2 hm)
  · exact poll_waitSend_stops s hx (hsend.2 hsd) hl

end Sys2Proof.Machine

/-! The family of `10_state.md`: the invariant after reset and under every step, the register space as `GET` reads and
`SET` writes it, and `ENCODE` from TXFR. -/

namespace Sys2Proof.Machine

/-! ## The contention window under the backoff engine (R180) -/

/-- `minW <= CW <= maxW` of an engine under a configuration: `windowInv` without the rest of the state. -/
def CsmaBank.InWindow (k : CsmaBank) (c : CfgBank) : Prop := c.minW ≤ k.cw.toNat ∧ k.cw.toNat ≤ c.maxW

theorem windowInv_iff (s : State) : windowInv s ↔ s.csma.InWindow s.cfg := Iff.rfl

theorem CsmaBank.InWindow.minW_le_maxW {k : CsmaBank} {c : CfgBank} (h : k.InWindow c) : c.minW ≤ c.maxW :=
  h.1.trans h.2

/-- `InWindow` reads nothing of the engine but `CW`. -/
theorem CsmaBank.InWindow.of_cw_eq {k k' : CsmaBank} {c : CfgBank} (h : k.InWindow c) (hcw : k'.cw = k.cw) :
    k'.InWindow c := by
  unfold CsmaBank.InWindow
  rwa [hcw]

theorem inWindow_of_cw_eq_minW {k : CsmaBank} {c : CfgBank} (hcw : k.cw = BitVec.ofNat 16 c.minW)
    (hle : c.minW ≤ c.maxW) : k.InWindow c := by
  unfold CsmaBank.InWindow
  rw [hcw, ofNat_minW]
  exact ⟨le_rfl, hle⟩

theorem CsmaBank.InWindow.accessOk {k : CsmaBank} {c : CfgBank} (h : k.InWindow c) : (k.accessOk c).InWindow c := by
  obtain ⟨hlo, hhi⟩ := h
  show c.minW ≤ (shrink c k.cw).toNat ∧ (shrink c k.cw).toNat ≤ c.maxW
  rw [shrink_toNat]
  omega

theorem CsmaBank.InWindow.accessFail {k : CsmaBank} {c : CfgBank} (prio : Bool) (h : k.InWindow c) :
    (k.accessFail c prio).InWindow c := by
  have hle := h.minW_le_maxW
  obtain ⟨hlo, hhi⟩ := h
  have hcw : (k.accessFail c prio).cw = windowAfterFail c (k.accessFail c prio).nbf k.cw := rfl
  unfold CsmaBank.InWindow
  rw [hcw, windowAfterFail_toNat]
  split
  · split
    · omega
    · exact ⟨hlo, hhi⟩
  · omega

theorem CsmaBank.InWindow.runBackoff {k : CsmaBank} {c : CfgBank} (prio bcast : Bool) (rnd : BitVec 16)
    (h : k.InWindow c) : (k.runBackoff c prio bcast rnd).InWindow c := by
  rcases runBackoff_cw k c prio bcast rnd with hcw | hcw
  · exact h.of_cw_eq hcw
  · unfold CsmaBank.InWindow
    rw [hcw, ofNat_maxW]
    exact ⟨h.minW_le_maxW, le_rfl⟩

theorem CsmaBank.InWindow.compensated {k : CsmaBank} {c : CfgBank} (pending nbf : Bool) (h : k.InWindow c) :
    (k.compensated pending nbf).InWindow c :=
  h.of_cw_eq (compensated_cw k pending nbf)

/-! ## Reserved bits of a frame-control register (R32, R134) -/

theorem fcReservedClear_reset : fcReservedClear FrameBank.reset := rfl

/-- The frame control of a record has no bit in 9..7. -/
theorem fcReservedClear_ofFrame (f : Frame) : fcReservedClear (FrameBank.ofFrame f) := by
  have hfc : (FrameBank.ofFrame f).fc.toNat = (fcImage f).toNat := rfl
  have hlow : f.ftype.toNat + 8 * f.sec.toNat + 16 * f.pending.toNat + 32 * f.ackReq.toNat +
      64 * f.panComp.toNat < 128 := by
    have := f.ftype.isLt
    have := f.sec.toNat_lt
    have := f.pending.toNat_lt
    have := f.ackReq.toNat_lt
    have := f.panComp.toNat_lt
    omega
  apply BitVec.eq_of_toNat_eq
  rw [BitVec.extractLsb'_toNat, hfc, fcImage_toNat, Nat.shiftRight_eq_div_pow]
  show _ = 0
  omega

/-- A write of TXFR leaves the hardwired bits 0 (R204). -/
theorem fcReservedClear_put (b : FrameBank) (r : FrameReg) (v : Word) (h : fcReservedClear b) :
    fcReservedClear (b.put r v) := by
  cases r with
  | fc =>
    show (v.setWidth 16 &&& 0xFC7F#16).extractLsb' 7 3 = 0#3
    rw [BitVec.extractLsb'_and]
    exact BitVec.and_zero
  | _ => exact h

/-! ## The invariant when one bank is replaced -/

theorem Inv.inWindow {s : State} (h : Inv s) : s.csma.InWindow s.cfg := (windowInv_iff s).1 h.window

theorem Inv.withMac {s : State} (h : Inv s) (m : MacBank) (hdesc : m.tx ≠ .none → s.txd.unacceptable = false)
    (hpend : m.compPending = true → m.tx ≠ .none) (hnbf : m.compNbf = true → m.compPending = true)
    (himm : m.immediate = true → m.tx = .waitSend) : Inv { s with mac := m } :=
  { h with descriptor := hdesc, pendingActive := hpend, nbfPending := hnbf, immediateSend := himm }

theorem Inv.withCsma {s : State} (h : Inv s) (k : CsmaBank) (hk : k.InWindow s.cfg) : Inv { s with csma := k } :=
  { h with window := hk }

theorem Inv.withSess {s : State} (h : Inv s) (b : SessBank) (hlen : b.txLen = s.sess.txLen) :
    Inv { s with sess := b } := by
  have hb : b.txLen.toNat ≤ Config.frameBufLen := by
    rw [hlen]
    exact h.onAir
  exact { h with onAir := hb }

theorem Inv.withSnap {s : State} (h : Inv s) (b : SnapBank) : Inv { s with snap := b } := { h with }

theorem Inv.withCnt {s : State} (h : Inv s) (b : CntBank) : Inv { s with cnt := b } := { h with }

theorem Inv.withRxfr {s : State} (h : Inv s) (b : RxBank) (hb : fcReservedClear b.header) :
    Inv { s with rxfr := b } :=
  { h with rxfrReserved := hb }

theorem Inv.withTxfr {s : State} (h : Inv s) (b : FrameBank) (hb : fcReservedClear b) : Inv { s with txfr := b } :=
  { h with txfrReserved := hb }

/-- The descriptor is software's to write while no request is active (R23). -/
theorem Inv.withTxd {s : State} (h : Inv s) (b : TxdBank) (hidle : s.mac.tx = .none) : Inv { s with txd := b } :=
  { h with descriptor := fun hx => absurd hidle hx }

theorem Inv.withCfg {s : State} (h : Inv s) (c : CfgBank) (k : CsmaBank) (hk : k.InWindow c) :
    Inv { s with cfg := c, csma := k } :=
  { h with window := hk }

/-! ## A write inside a space -/

theorem memoryInv_nil (size : Nat) : memoryInv [] size := ⟨Memory.wf_nil, Memory.within_nil size⟩

theorem memoryInv_writeRun {m : Memory} {size : Nat} (h : memoryInv m size) (a : Nat) (bs : List Byte)
    (hb : a + bs.length ≤ size) : memoryInv (Memory.writeRun m a bs) size := by
  obtain ⟨hwf, hin⟩ := h
  exact ⟨Memory.wf_writeRun m a bs hwf, Memory.within_writeRun m a size bs hin hb⟩

theorem memoryInv_write {m : Memory} {size : Nat} (h : memoryInv m size) (a : Nat) (b : Byte) (ha : a < size) :
    memoryInv (Memory.write m a b) size :=
  memoryInv_writeRun h a [b] ha

theorem Inv.writeReqmem {s : State} (h : Inv s) (off : BitVec 16) (b : Byte) : Inv (s.writeReqmem off b) :=
  { h with reqmem := memoryInv_write h.reqmem off.toNat b off.isLt }

theorem Inv.writeRxbuf {s : State} (h : Inv s) (off : BitVec 11) (b : Byte) : Inv (s.writeRxbuf off b) :=
  { h with rxbuf := memoryInv_write h.rxbuf off.toNat b off.isLt }

/-- A frame that fits `TXBUF` is stored whole, and `TX_LEN` is its length. -/
theorem Inv.storeFrame {s : State} (h : Inv s) (b : List Byte) (hb : b.length ≤ 2048) : Inv (s.storeFrame b) := by
  have hlen : (BitVec.ofNat 12 b.length).toNat ≤ 2048 := by
    rw [BitVec.toNat_ofNat]
    omega
  exact { h with txbuf := memoryInv_writeRun h.txbuf 0 b (by rwa [Nat.zero_add]), onAir := hlen }

/-! ## The invariant under the named operations -/

theorem Inv.respond {s : State} (h : Inv s) (c : RspCode) (r : BitVec 24) : Inv (s.respond c r) := { h with }

theorem Inv.emit {s : State} (h : Inv s) (e : Effect) : Inv (s.emit e) := { h with }

theorem Inv.takeTurn {s : State} (h : Inv s) (rest : List Input) : Inv (s.takeTurn rest) := { h with }

theorem Inv.sample {s : State} (h : Inv s) (now : Word) (rnd : BitVec 16) : Inv (s.sample now rnd) := { h with }

theorem Inv.enterOcc {s : State} (h : Inv s) (o : Occ) : Inv (s.enterOcc o) := { h with }

theorem Inv.occTick {s : State} (h : Inv s) : Inv s.occTick := by
  obtain ⟨o, w, ho⟩ := occTick_shape s
  rw [ho]
  exact { h with }

theorem Inv.pollAnswer {s : State} (h : Inv s) : Inv s.pollAnswer := h.respond _ _

/-- A request that ends takes the flags with it (R225). -/
theorem Inv.conclude {s : State} (h : Inv s) (o : TxOutcome) : Inv (s.conclude o) :=
  { h with
    descriptor := fun hx => absurd rfl hx
    pendingActive := nofun
    nbfPending := nofun
    immediateSend := nofun }

theorem Inv.clearComp {s : State} (h : Inv s) : Inv s.clearComp :=
  { h with pendingActive := nofun, nbfPending := nofun }

theorem Inv.immediate_eq_false {s : State} (h : Inv s) (hx : s.mac.tx ≠ .waitSend) : s.mac.immediate = false :=
  Bool.eq_false_iff.2 fun hi => hx (h.immediateSend hi)

/-- `STATE.TX` moves inside an active request; `IMMEDIATE` may be left 1 only in `WAIT_SEND` (R38). -/
theorem Inv.setTx {s : State} (h : Inv s) {x : TxSub} (hs : s.mac.tx ≠ .none) (hx : x ≠ .none)
    (himm : s.mac.immediate = true → x = .waitSend) : Inv (s.setTx x) :=
  h.withMac _ (fun _ => h.descriptor hs) (fun _ => hx) h.nbfPending himm

/-- Out of a sub-state other than `WAIT_SEND` the flag `IMMEDIATE` is 0 already. -/
theorem Inv.setTx_of_ne_waitSend {s : State} (h : Inv s) {x : TxSub} (hs : s.mac.tx ≠ .none)
    (hw : s.mac.tx ≠ .waitSend) (hx : x ≠ .none) : Inv (s.setTx x) :=
  h.setTx hs hx fun hi => absurd hi (by simp [h.immediate_eq_false hw])

theorem Inv.setImmediate_false_setTx {s : State} (h : Inv s) {x : TxSub} (hs : s.mac.tx ≠ .none) (hx : x ≠ .none) :
    Inv ((s.setImmediate false).setTx x) :=
  h.withMac _ (fun _ => h.descriptor hs) (fun _ => hx) h.nbfPending nofun

theorem Inv.setImmediate_true_waitSend {s : State} (h : Inv s) (hs : s.mac.tx ≠ .none) :
    Inv ((s.setImmediate true).setTx .waitSend) :=
  h.withMac _ (fun _ => h.descriptor hs) (fun _ => nofun) h.nbfPending fun _ => rfl

theorem Inv.segDone {s : State} (h : Inv s) : Inv s.segDone := h.withSess _ rfl

theorem Inv.seek {s : State} (h : Inv s) (seg : BitVec 6) (off : BitVec 16) : Inv (s.seek seg off) := h.withSess _ rfl

theorem Inv.setRetries {s : State} (h : Inv s) (v : BitVec 8) : Inv (s.setRetries v) := h.withSess _ rfl

theorem Inv.nextIndex {s : State} (h : Inv s) : Inv s.nextIndex := h.withSess _ rfl

theorem Inv.accessOk {s : State} (h : Inv s) : Inv s.accessOk :=
  h.withCsma _ h.inWindow.accessOk

theorem Inv.compensate {s : State} (h : Inv s) : Inv s.compensate :=
  (h.withCsma _ (h.inWindow.compensated _ _)).clearComp

theorem Inv.acceptRequest {s : State} (h : Inv s) (hacc : s.txd.unacceptable = false) : Inv s.acceptRequest :=
  { h with
    descriptor := fun _ => hacc
    pendingActive := nofun
    nbfPending := nofun
    immediateSend := nofun }

/-- A built segment is an on-air frame that fits `TXBUF`, its header in TXFR. -/
theorem Inv.built {s w : State} (h : Inv s) (hw : Built s w) : Inv w := by
  obtain ⟨b, hb, rfl⟩ := hw
  exact { h.storeFrame b hb with txfrReserved := fcReservedClear_ofFrame _ }

theorem Built.tx_eq {s w : State} (hw : Built s w) : w.mac.tx = s.mac.tx := by
  obtain ⟨b, -, rfl⟩ := hw
  rfl

theorem Inv.applyFallback {s : State} (h : Inv s) : Inv s.applyFallback := by
  rcases applyFallback_shape s with hs | ⟨b, hs⟩ <;> rw [hs]
  · exact h
  · exact (h.withSnap b).emit _

theorem applyFallback_tx (s : State) : s.applyFallback.mac.tx = s.mac.tx := by
  rcases applyFallback_shape s with hs | ⟨b, hs⟩ <;> rw [hs]
  rfl

theorem Inv.countDecode {s : State} (h : Inv s) (n : Nat) : Inv (s.countDecode n) := by
  rcases countDecode_cases s n with ⟨code, -, hs⟩ | ⟨f, pad, -, hs⟩ <;> rw [hs]
  · exact h.withCnt _
  · exact h.withRxfr _ (fcReservedClear_ofFrame f)

/-! ## The invariant under the host commands -/

theorem resetCfg_minW_le_maxW {c : CfgBank} (h : c.minW ≤ c.maxW) (clr : Bool) :
    (resetCfg c clr).minW ≤ (resetCfg c clr).maxW := by
  cases clr with
  | false => exact h
  | true =>
    show CfgBank.reset.minW ≤ CfgBank.reset.maxW
    decide

theorem Inv.cleared {s : State} (h : Inv s) (clr : Bool) : Inv (s.cleared clr) where
  txbuf := memoryInv_nil _
  rxbuf := memoryInv_nil _
  reqmem := h.reqmem
  window := inWindow_of_cw_eq_minW rfl (resetCfg_minW_le_maxW h.inWindow.minW_le_maxW clr)
  onAir := Nat.zero_le _
  txfrReserved := fcReservedClear_reset
  rxfrReserved := fcReservedClear_reset
  descriptor := fun hx => absurd rfl hx
  pendingActive := nofun
  nbfPending := nofun
  immediateSend := nofun

/-- A legal `SET` of the configuration leaves the window between its bounds: a write of `MIN_BE` or `MAX_BE` starts it
again at `minW`, the other registers move no bound (R25, R204). -/
theorem inWindow_afterCfgSet {k : CsmaBank} {c : CfgBank} (h : k.InWindow c) (r : CfgReg) (v : Word)
    (hok : setRefused c (.cfg r) v = false) : (k.afterCfgSet r (c.put r v)).InWindow (c.put r v) := by
  cases r with
  | minBE =>
    refine inWindow_of_cw_eq_minW rfl (Nat.pow_le_pow_right (by decide) ?_)
    exact Nat.not_lt.1 (of_decide_eq_false hok)
  | maxBE =>
    refine inWindow_of_cw_eq_minW rfl (Nat.pow_le_pow_right (by decide) ?_)
    exact Nat.not_lt.1 (of_decide_eq_false hok)
  | _ => exact h

theorem Inv.writeReg {s : State} (h : Inv s) (r : Reg) (v : Word) (hidle : s.mac.tx = .none)
    (hok : setRefused s.cfg r v = false) : Inv (s.writeReg r v) := by
  cases r with
  | cfg r => exact h.withCfg _ _ (inWindow_afterCfgSet h.inWindow r v hok)
  | txd r => exact h.withTxd _ hidle
  | txfr r => exact h.withTxfr _ (fcReservedClear_put s.txfr r v h.txfrReserved)
  | status | cnt | snap | rxfr | rx => exact h

/-! ## The invariant under `POLL` -/

theorem Inv.tickStart {s u : State} (h : Inv s) (hx : s.mac.tx = .start) (hu : tickStart s = .next u) : Inv u := by
  obtain ⟨b, v, -, hv, hu⟩ := tickStart_cases s u hu
  have hvx : v.mac.tx = .start := by rw [hv]; exact hx
  have hvi : Inv v := by rw [hv]; exact ((h.withSnap b).setRetries _).emit _
  rcases hu with rfl | ⟨w, hw, rfl⟩
  · exact hvi.conclude _
  · have hwx : w.mac.tx = .start := hw.tx_eq.trans hvx
    exact (hvi.built hw).setTx_of_ne_waitSend (by simp [hwx]) (by simp [hwx]) (by decide)

theorem Inv.tickCsmaCa {s : State} (h : Inv s) (hx : s.mac.tx = .csmaCa) : Inv (tickCsmaCa s) :=
  (h.withCsma _ (h.inWindow.runBackoff _ _ _)).setImmediate_false_setTx (by simp [hx]) (by decide)

theorem Inv.tickWaitSend {s u : State} (h : Inv s) (hx : s.mac.tx = .waitSend) (hu : tickWaitSend s = .next u) :
    Inv u := by
  rcases tickWaitSend_cases s u hu with ⟨-, rfl⟩ | ⟨time, sense, -, rfl⟩
  · exact h
  · exact (h.emit _).setImmediate_false_setTx (by simp [hx]) (by decide)

theorem Inv.tickFailCsmaCa {s : State} (h : Inv s) (hx : s.mac.tx = .failCsmaCa) : Inv (tickFailCsmaCa s) := by
  have hmove {x : TxSub} : x ≠ .none → Inv (s.setTx x) := h.setTx_of_ne_waitSend (by simp [hx]) (by simp [hx])
  unfold Machine.tickFailCsmaCa
  split
  · exact h.conclude _
  · split
    · exact hmove (by decide)
    · exact hmove (by decide)

theorem Inv.tickWaitAck {s : State} (h : Inv s) (hx : s.mac.tx = .waitAck) : Inv (tickWaitAck s) := by
  unfold Machine.tickWaitAck
  split
  · exact h.setTx_of_ne_waitSend (by simp [hx]) (by simp [hx]) (by decide)
  · exact h

theorem Inv.tickSendOk {s : State} (h : Inv s) (hx : s.mac.tx = .sendOk) : Inv (tickSendOk s) := by
  rcases tickSendOk_cases s with hs | hs | ⟨w, hw, hs⟩ | hs <;> rw [hs]
  · exact h.segDone.conclude _
  · exact h.segDone.nextIndex.conclude _
  · have hwx : w.mac.tx = .sendOk := hw.tx_eq.trans hx
    exact (h.segDone.nextIndex.built hw).setImmediate_true_waitSend (by simp [hwx])
  · exact h.segDone.accessOk.conclude _

theorem Inv.tickLittleFail {s : State} (h : Inv s) (hx : s.mac.tx = .littleFail) : Inv (tickLittleFail s) := by
  unfold Machine.tickLittleFail
  split
  · exact h.conclude _
  · exact (h.setRetries _).setImmediate_false_setTx (by simp [hx]) (by decide)

theorem Inv.tickBigFail {s : State} (h : Inv s) (hx : s.mac.tx = .bigFail) : Inv (tickBigFail s) := by
  rcases tickBigFail_cases s with hs | ⟨v, hv, hs⟩
  · rw [hs]
    exact h.conclude _
  · have hvi : Inv v := by rw [hv]; exact (h.setRetries _).applyFallback
    have hvx : v.mac.tx = .bigFail := by rw [hv, applyFallback_tx]; exact hx
    rcases hs with hs | ⟨w, hw, hs⟩ <;> rw [hs]
    · exact hvi.conclude _
    · have hwx : w.mac.tx = .bigFail := hw.tx_eq.trans hvx
      exact (hvi.built hw).setImmediate_false_setTx (by simp [hwx]) (by decide)

theorem Inv.txTick {s u : State} (h : Inv s) (hu : txTick s = .next u) : Inv u := by
  unfold Machine.txTick at hu
  rcases hx : s.mac.tx <;> rw [hx] at hu <;> dsimp only at hu
  case start => exact h.tickStart hx hu
  case waitSend => exact h.tickWaitSend hx hu
  all_goals obtain rfl := Host.Outcome.next.inj hu
  case none => exact h
  case csmaCa => exact h.tickCsmaCa hx
  case waitConfirm => exact h
  case failCsmaCa => exact h.tickFailCsmaCa hx
  case waitAck => exact h.tickWaitAck hx
  case sendOk => exact h.tickSendOk hx
  case littleFail => exact h.tickLittleFail hx
  case bigFail => exact h.tickBigFail hx

/-! ## The invariant under the PHY's reports -/

/-- `SUCCESS` moves on inside the request (R245). -/
theorem Inv.confirmSuccess {s : State} (h : Inv s) (hx : s.mac.tx = .waitConfirm) (time : Word) :
    Inv (s.confirmSuccess time) := by
  have hmove {x : TxSub} : x ≠ .none → Inv (s.setTx x) := h.setTx_of_ne_waitSend (by simp [hx]) (by simp [hx])
  unfold State.confirmSuccess
  dsimp only
  split
  · exact { (hmove (x := .waitAck) (by decide)) with }
  · exact { (hmove (x := .sendOk) (by decide)) with }

/-- The mark of R246 stands in an active request. -/
theorem Inv.confirmBusy {s : State} (h : Inv s) (hx : s.mac.tx = .waitConfirm) : Inv s.confirmBusy := by
  have hne : s.mac.tx ≠ .none := by simp [hx]
  have hw : s.mac.tx ≠ .waitSend := by simp [hx]
  have hk : Inv { s with csma := s.csma.accessFail s.cfg s.txd.prio } :=
    h.withCsma _ (h.inWindow.accessFail _)
  exact hk.withMac _ (fun _ => h.descriptor hne) (fun _ => nofun) (fun _ => rfl)
    fun hi => absurd (h.immediateSend hi) hw

theorem Inv.txConfirmed {s : State} (h : Inv s) (status : PhyStatus) (time : Word) :
    Inv (s.txConfirmed status time) := by
  unfold State.txConfirmed
  split
  · exact h.enterOcc _
  · rename_i hx
    rw [not_not] at hx
    cases status with
    | success => exact h.clearComp.confirmSuccess hx time
    | busyChannelSense => exact h.clearComp.confirmBusy hx
    | busyOwnRx => exact h.clearComp.confirmBusy hx
    | busyOwnTx => exact (h.clearComp.conclude _).enterOcc _
    | unknown => exact (h.clearComp.conclude _).enterOcc _

theorem Inv.interrupt {s : State} (h : Inv s) : Inv s.interrupt := by
  unfold State.interrupt
  split
  · rename_i hx
    exact h.setTx (by simp [hx]) (by decide) fun _ => rfl
  · exact h

theorem Inv.deliver {s : State} (h : Inv s) (f : Frame) (ack : Bool) (time : Word) : Inv (s.deliver f ack time) := by
  have hdata : Inv (if s.cfg.addressFilter f then s.emit (.dataInd s.rxfr f.payload time) else s) := by
    split
    · exact h.emit _
    · exact h
  unfold State.deliver
  dsimp only
  generalize (if s.cfg.addressFilter f then s.emit (.dataInd s.rxfr f.payload time) else s) = t at hdata ⊢
  split
  · exact hdata.emit _
  · exact hdata

theorem Inv.received {s : State} (h : Inv s) (r : DecodeResult) (ack : Bool) (time : Word) :
    Inv (s.received r ack time) := by
  cases r with
  | reject code => exact (h.enterOcc _).respond _ _
  | ok f pad => exact ((h.compensate.interrupt.deliver f ack time).enterOcc _).respond _ _

theorem txAfterAck_ne_none (d : Delim) (sub : Bool) : txAfterAck .waitAck d sub ≠ .none := by
  cases d with
  | ack => exact TxSub.noConfusion
  | nack => cases sub <;> exact TxSub.noConfusion
  | other code => exact TxSub.noConfusion

/-- A matching acknowledgement finds the machine in `WAIT_ACK` and keeps the request active (R268). -/
theorem Inv.acknowledged {s : State} (h : Inv s) (d : Delim) (sub : Bool) (fcs : BitVec 16) :
    Inv (s.acknowledged d sub fcs) := by
  unfold State.acknowledged
  dsimp only
  split
  · rename_i hm
    have hx : s.mac.tx = .waitAck := of_decide_eq_true (Bool.and_eq_true_iff.1 hm).1
    rw [hx]
    exact (h.enterOcc _).setTx_of_ne_waitSend (by simp [hx]) (by simp [hx]) (txAfterAck_ne_none d sub)
  · exact h.enterOcc _

/-! ## The invariant under every operation and every step -/

theorem Inv.does {i : Instr} {s t : State} (h : Inv s) (ht : Does i s t) : Inv t := by
  cases i with
  | reset clr => obtain rfl := ht; exact (h.cleared clr).respond _ _
  | get n => obtain rfl := ht; exact (h.emit _).respond _ _
  | set n v =>
    obtain ⟨hidle, r, -, -, hok, rfl⟩ := ht
    exact (h.writeReg r v hidle hok).respond _ _
  | txreq =>
    obtain ⟨-, hacc, rfl⟩ := ht
    exact (h.acceptRequest hacc).respond _ _
  | poll =>
    obtain ⟨u, hu, rfl⟩ := ht
    exact (h.occTick.txTick hu).pollAnswer
  | txcfm status time => obtain rfl := ht; exact (h.txConfirmed status time).respond _ _
  | rxind len ack time => obtain rfl := ht; exact (h.countDecode _).received _ ack time
  | ackind d sub fcs => obtain rfl := ht; exact (h.acknowledged d sub fcs).respond _ _
  | crc16 | hdrlen =>
    obtain ⟨-, r, rfl⟩ := ht
    exact h.respond _ _
  | decode len =>
    obtain ⟨-, r, rfl⟩ := ht
    exact (h.countDecode _).respond _ _
  | encode =>
    obtain ⟨-, b, r, hb, rfl⟩ := ht
    exact (h.storeFrame b hb).respond _ _
  | phycalc | fallback =>
    obtain ⟨-, b, r, rfl⟩ := ht
    exact (h.withSnap b).respond _ _
  | backoff =>
    obtain ⟨-, r, rfl⟩ := ht
    exact (h.withCsma _ (h.inWindow.runBackoff _ _ _)).respond _ _
  | accfail =>
    obtain ⟨-, r, rfl⟩ := ht
    exact (h.withCsma _ (h.inWindow.accessFail _)).respond _ _
  | accok =>
    obtain ⟨-, r, rfl⟩ := ht
    exact h.accessOk.respond _ _
  | compensate =>
    obtain ⟨-, r, rfl⟩ := ht
    exact h.compensate.respond _ _
  | nextseg seg off =>
    obtain ⟨-, w, hw, rfl⟩ := ht
    exact ((h.seek seg off).built hw).respond _ _
  | segdone =>
    obtain ⟨-, r, rfl⟩ := ht
    exact h.segDone.respond _ _

theorem Inv.exec {i : Instr} {s t : State} (h : Inv s) (ht : exec i s = .next t) : Inv t := by
  rcases exec_cases i s t ht with ⟨c, -, rfl⟩ | hd
  · exact h.respond _ _
  · exact h.does hd

/-- Settles O59: the environment's bytes stay inside their spaces, and a command is answered `ERR_ILLEGAL` or is an
operation, each of which keeps the invariant. -/
theorem stepKeepsInvariant : Obligations.StepKeepsInvariant := by
  intro s t h ht
  rcases step_cases s t ht with
    ⟨-, rfl⟩ | ⟨off, b, rest, -, rfl⟩ | ⟨off, b, rest, -, rfl⟩ | ⟨now, rnd, c, rest, -, ⟨-, rfl⟩ | ⟨i, -, hi⟩⟩
  · exact h.takeTurn _
  · exact (h.takeTurn rest).writeReqmem off b
  · exact (h.takeTurn rest).writeRxbuf off b
  · exact ((h.takeTurn rest).sample now rnd).respond _ _
  · exact ((h.takeTurn rest).sample now rnd).exec hi

/-- Settles O58: memories empty, `CW = 2^MIN_BE`, no request active and every flag 0. -/
theorem resetInvariant : Obligations.ResetInvariant where
  txbuf := memoryInv_nil _
  rxbuf := memoryInv_nil _
  reqmem := memoryInv_nil _
  window := inWindow_of_cw_eq_minW rfl (by decide)
  onAir := Nat.zero_le _
  txfrReserved := fcReservedClear_reset
  rxfrReserved := fcReservedClear_reset
  descriptor := fun hx => absurd rfl hx
  pendingActive := nofun
  nbfPending := nofun
  immediateSend := nofun

/-! ## Reading the register space -/

/-- The implemented numbers (R67). -/
def ImplementedNum (n : BitVec 8) : Prop :=
  n.toNat ≤ 0x19 ∨ (0x40 ≤ n.toNat ∧ n.toNat ≤ 0x53 ∧ n.toNat ≠ 0x4D) ∨ (0x58 ≤ n.toNat ∧ n.toNat ≤ 0x5A) ∨
    (0x60 ≤ n.toNat ∧ n.toNat ≤ 0x69) ∨ (0x80 ≤ n.toNat ∧ n.toNat ≤ 0x88) ∨ (0xA0 ≤ n.toNat ∧ n.toNat ≤ 0xAA) ∨
    (0xC0 ≤ n.toNat ∧ n.toNat ≤ 0xCE)

theorem implementedNum_regNum (r : Reg) : ImplementedNum (regNum r) := by
  unfold ImplementedNum
  rcases r with r | r | r | r | r | r | r | r <;> cases r <;> decide

theorem regOf_isSome_of_implementedNum (n : BitVec 8) (h : ImplementedNum n) : (regOf n).isSome = true := by
  unfold ImplementedNum at h
  revert n
  decide +kernel

theorem implementedNum_iff (n : BitVec 8) : ImplementedNum n ↔ ∃ r, regNum r = n := by
  constructor
  · intro h
    obtain ⟨r, hr⟩ := Option.isSome_iff_exists.1 (regOf_isSome_of_implementedNum n h)
    exact ⟨r, regNum_of_regOf n r hr⟩
  · rintro ⟨r, rfl⟩
    exact implementedNum_regNum r

theorem regOf_eq_none_of_not_implementedNum (n : BitVec 8) (h : ¬ ImplementedNum n) : regOf n = none :=
  regOf_eq_none n fun r hr => h ((implementedNum_iff n).2 ⟨r, hr⟩)

theorem get_implemented (s : State) (r : Reg) :
    exec (.get (regNum r)) s =
      .next
        { s with
          effects := s.effects ++ [.getConfirm (regNum r) true (s.readReg r)]
          response := some (rspWord .ok 0#24) } := by
  have hc : s.getConfirm (regNum r) = .getConfirm (regNum r) true (s.readReg r) := by
    unfold State.getConfirm
    rw [regOf_regNum]
  show Host.Outcome.next ((s.emit (s.getConfirm (regNum r))).respond .ok 0#24) = _
  rw [hc]
  rfl

theorem get_unimplemented (s : State) (n : BitVec 8) (h : regOf n = none) :
    exec (.get n) s =
      .next
        { s with
          effects := s.effects ++ [.getConfirm n false 0#32]
          response := some (rspWord .ok 0#24) } := by
  have hc : s.getConfirm n = .getConfirm n false 0#32 := by
    unfold State.getConfirm
    rw [h]
  show Host.Outcome.next ((s.emit (s.getConfirm n)).respond .ok 0#24) = _
  rw [hc]
  rfl

/-- `SNAP_MOD` in its 32-bit register (R34). -/
theorem modImage_setWidth (b : SnapBank) :
    b.modImage.setWidth 32 = 0#27 ++ BitVec.ofBool b.twoRs ++ BitVec.ofBool b.scheme ++ modBits b.modType := by
  have := (modBits b.modType).isLt
  have := b.twoRs.toNat_lt
  have := b.scheme.toNat_lt
  apply BitVec.eq_of_toNat_eq
  unfold SnapBank.modImage
  simp only [BitVec.toNat_setWidth, toNat_concat, BitVec.toNat_ofBool, BitVec.toNat_ofNat]
  omega

/-- The register map lists every register but `STATE` with its number and what it reads. -/
theorem registerMap_eq (s : State) :
    registerMap s =
      (allRegs.filter fun r => decide (r ≠ .status .state)).map fun r => (r, regNum r, s.readReg r) := by
  unfold registerMap
  rw [← modImage_setWidth]
  rfl

theorem of_mem_registerMap (s : State) (r : Reg) (n : BitVec 8) (v : Word) (h : (r, n, v) ∈ registerMap s) :
    regNum r = n ∧ s.readReg r = v := by
  rw [registerMap_eq] at h
  obtain ⟨q, -, hq⟩ := List.mem_map.1 h
  rw [Prod.mk.injEq, Prod.mk.injEq] at hq
  obtain ⟨rfl, hn, hv⟩ := hq
  exact ⟨hn, hv⟩

/-- The tags and flags of `STATE` at their places (R35). -/
theorem stateBits_toNat (m : MacBank) :
    m.stateBits.toNat =
      (occBits m.occ).toNat + 16 * (txBits m.tx).toNat + (if m.tx = .none then 0 else 256) +
        512 * m.moreFrag.toNat + 1024 * m.compPending.toNat + 2048 * m.compNbf.toNat +
        4096 * m.immediate.toNat := by
  have hreq : (decide (m.tx ≠ .none)).toNat = if m.tx = .none then 0 else 1 := by
    by_cases hx : m.tx = .none <;> simp [hx]
  unfold MacBank.stateBits
  simp only [toNat_concat, BitVec.toNat_ofBool, BitVec.toNat_ofNat, hreq]
  split <;> omega

theorem readReg_state_toNat (s : State) : (s.readReg (.status .state)).toNat = s.mac.stateBits.toNat := by
  show (s.mac.stateBits.setWidth 32).toNat = _
  have := s.mac.stateBits.isLt
  rw [BitVec.toNat_setWidth]
  omega

/-- Settles O31: the implemented numbers are those of the registers, and the map of `Safety.lean` is the model's own row
by row. -/
theorem getOperation : Obligations.GetOperation := by
  refine ⟨get_implemented, fun s n hn => ?_, fun n hn => (implementedNum_iff n).1 hn, fun s r n v hrow => ?_,
    ⟨rfl, rfl, rfl, rfl⟩, fun s => ⟨rfl, ?_⟩⟩
  · exact get_unimplemented s n (regOf_eq_none_of_not_implementedNum n hn)
  · obtain ⟨rfl, rfl⟩ := of_mem_registerMap s r n v hrow
    exact ⟨rfl, rfl, get_implemented s r⟩
  · rw [readReg_state_toNat, stateBits_toNat]

/-! ## Writing the register space -/

/-- A value cut to a field of `n` bits reads back under the field's mask (R22). -/
theorem setWidth_setWidth_eq_and (n : Nat) (v m : Word) (hm : m = BitVec.ofNat 32 (2 ^ n - 1)) :
    (v.setWidth n).setWidth 32 = v &&& m := by
  subst hm
  refine BitVec.eq_of_getLsbD_eq fun i hi => ?_
  rw [BitVec.getLsbD_and, BitVec.getLsbD_ofNat, Nat.testBit_two_pow_sub_one, BitVec.getLsbD_setWidth,
    BitVec.getLsbD_setWidth]
  simp [hi, Bool.and_comm]

/-- `TXFR_FC` reads back without the hardwired bits 9..7 (R204). -/
theorem fc_readback (v : Word) : (v.setWidth 16 &&& 0xFC7F#16).setWidth 32 = v &&& 0xFC7F#32 := by
  rw [BitVec.setWidth_and, setWidth_setWidth_eq_and 16 v 0xFFFF#32 rfl, BitVec.and_assoc]
  rfl

theorem CfgBank.get_put_same (c : CfgBank) (r : CfgReg) (v : Word) :
    (c.put r v).get r = v &&& writableBits (.cfg r) := by
  cases r with
  | extAddrLo | extAddrHi | slotTime | eifsTime | cifsTime | rcifsTime | cpTime | rifsTime | ackTime | leadTime =>
    exact (BitVec.and_allOnes (x := v)).symm
  | toneMask0 | toneMask1 | toneMask2 => exact (BitVec.and_allOnes (x := v)).symm
  | _ => exact setWidth_setWidth_eq_and _ v _ rfl

theorem TxdBank.get_put_same (t : TxdBank) (r : TxdReg) (v : Word) :
    (t.put r v).get r = v &&& writableBits (.txd r) := by
  cases r with
  | dstLo | dstHi | gain | secLo => exact (BitVec.and_allOnes (x := v)).symm
  | _ => exact setWidth_setWidth_eq_and _ v _ rfl

theorem FrameBank.get_put_same (b : FrameBank) (r : FrameReg) (v : Word) :
    (b.put r v).get r = v &&& writableBits (.txfr r) := by
  cases r with
  | fc => exact fc_readback v
  | dstLo | dstHi | srcLo | srcHi | secLo => exact (BitVec.and_allOnes (x := v)).symm
  | _ => exact setWidth_setWidth_eq_and _ v _ rfl

/-- A write of a register is a write of one field, which no other register reads. -/
theorem CfgBank.get_put_other (c : CfgBank) (r q : CfgReg) (v : Word) (h : q ≠ r) : (c.put r v).get q = c.get q := by
  cases r <;> cases q <;> first | rfl | exact absurd rfl h

theorem TxdBank.get_put_other (t : TxdBank) (r q : TxdReg) (v : Word) (h : q ≠ r) : (t.put r v).get q = t.get q := by
  cases r <;> cases q <;> first | rfl | exact absurd rfl h

theorem FrameBank.get_put_other (b : FrameBank) (r q : FrameReg) (v : Word) (h : q ≠ r) :
    (b.put r v).get q = b.get q := by
  cases r <;> cases q <;> first | rfl | exact absurd rfl h

/-- `MIN_BE` and `MAX_BE` start the window again (R25). -/
theorem afterCfgSet_of_exponent (k : CsmaBank) (r : CfgReg) (c : CfgBank) (h : r = .minBE ∨ r = .maxBE) :
    k.afterCfgSet r c = { k with cw := BitVec.ofNat 16 c.minW, minCwStreak := 0#8 } := by
  rcases h with rfl | rfl <;> rfl

theorem afterCfgSet_of_not_exponent (k : CsmaBank) (r : CfgReg) (c : CfgBank) (h : ¬ (r = .minBE ∨ r = .maxBE)) :
    k.afterCfgSet r c = k := by
  cases r with
  | minBE => exact absurd (.inl rfl) h
  | maxBE => exact absurd (.inr rfl) h
  | _ => rfl

theorem afterCfgSet_shape (k : CsmaBank) (r : CfgReg) (c : CfgBank) :
    k.afterCfgSet r c =
      { k with cw := (k.afterCfgSet r c).cw, minCwStreak := (k.afterCfgSet r c).minCwStreak } := by
  by_cases h : r = .minBE ∨ r = .maxBE
  · rw [afterCfgSet_of_exponent k r c h]
  · rw [afterCfgSet_of_not_exponent k r c h]

/-- A write changes the three `RW` banks, and of the rest `CW` and `MIN_CW_STREAK` at most. -/
theorem writeReg_shape (s : State) (r : Reg) (v : Word) :
    s.writeReg r v =
      { s with
        cfg := (s.writeReg r v).cfg
        csma :=
          { s.csma with cw := (s.writeReg r v).csma.cw, minCwStreak := (s.writeReg r v).csma.minCwStreak }
        txd := (s.writeReg r v).txd
        txfr := (s.writeReg r v).txfr } := by
  cases r with
  | cfg r =>
    show { s with cfg := s.cfg.put r v, csma := s.csma.afterCfgSet r (s.cfg.put r v) } = _
    rw [afterCfgSet_shape]
    rfl
  | _ => rfl

theorem readReg_writeReg_same (s : State) (r : Reg) (v : Word) (hw : regWritable r = true) :
    (s.writeReg r v).readReg r = v &&& writableBits r := by
  cases r with
  | cfg r => exact CfgBank.get_put_same s.cfg r v
  | txd r => exact TxdBank.get_put_same s.txd r v
  | txfr r => exact FrameBank.get_put_same s.txfr r v
  | status | cnt | snap | rxfr | rx => cases hw

theorem getStatus_writeReg_cfg (s : State) (r : CfgReg) (v : Word) (q : StatusReg)
    (h : r = .minBE ∨ r = .maxBE → q ≠ .cw ∧ q ≠ .minCwStreak) :
    (s.writeReg (.cfg r) v).getStatus q = s.getStatus q := by
  show State.getStatus { s with cfg := s.cfg.put r v, csma := s.csma.afterCfgSet r (s.cfg.put r v) } q = _
  by_cases hr : r = .minBE ∨ r = .maxBE
  · obtain ⟨hcw, hstreak⟩ := h hr
    rw [afterCfgSet_of_exponent _ r _ hr]
    cases q with
    | cw => exact absurd rfl hcw
    | minCwStreak => exact absurd rfl hstreak
    | _ => rfl
  · rw [afterCfgSet_of_not_exponent _ r _ hr]
    rfl

theorem readReg_writeReg_other (s : State) (r q : Reg) (v : Word) (hq : q ≠ r)
    (hcw : r = .cfg .minBE ∨ r = .cfg .maxBE → q ≠ .status .cw ∧ q ≠ .status .minCwStreak) :
    (s.writeReg r v).readReg q = s.readReg q := by
  cases r with
  | cfg r =>
    cases q with
    | cfg q => exact CfgBank.get_put_other s.cfg r q v fun e => hq (congrArg Reg.cfg e)
    | status q =>
      simp only [Reg.cfg.injEq, ne_eq, Reg.status.injEq] at hcw
      exact getStatus_writeReg_cfg s r v q hcw
    | _ => rfl
  | txd r =>
    cases q with
    | txd q => exact TxdBank.get_put_other s.txd r q v fun e => hq (congrArg Reg.txd e)
    | _ => rfl
  | txfr r =>
    cases q with
    | txfr q => exact FrameBank.get_put_other s.txfr r q v fun e => hq (congrArg Reg.txfr e)
    | _ => rfl
  | status | cnt | snap | rxfr | rx => rfl

/-- `MIN_BE` and `MAX_BE` are compared as the 4-bit fields they are cut to (R25). -/
theorem setRefused_iff (c : CfgBank) (r : Reg) (v : Word) :
    setRefused c r v = true ↔
      (r = .cfg .minBE ∧ c.maxBE.toNat < v.toNat % 16) ∨ (r = .cfg .maxBE ∧ v.toNat % 16 < c.minBE.toNat) := by
  unfold setRefused
  split
  · simp
  · simp
  · rename_i hmin hmax
    constructor
    · nofun
    · rintro (⟨h, -⟩ | ⟨h, -⟩)
      · exact absurd h hmin
      · exact absurd h hmax

/-! ## What `SET` answers (R204, R283) -/

theorem set_unimplemented (s : State) (n : BitVec 8) (v : Word) (h : regOf n = none) :
    exec (.set n v) s = .next { s with response := some (rspWord .errReg 0#24) } := by
  show execSet n v s = _
  rw [execSet, h]
  rfl

theorem set_readOnly (s : State) (r : Reg) (v : Word) (hw : regWritable r = false) :
    exec (.set (regNum r) v) s = .next { s with response := some (rspWord .errRo 0#24) } := by
  show execSet (regNum r) v s = _
  rw [execSet, regOf_regNum]
  exact if_pos hw

/-- A writable register is past the first two checks. -/
theorem set_writable (s : State) (r : Reg) (v : Word) (hw : regWritable r = true) :
    exec (.set (regNum r) v) s =
      if s.busy then refuseWith s .errBusy
      else if setRefused s.cfg r v then refuseWith s .errParam
      else answer ((s.writeReg r v).respond .ok 0#24) := by
  show execSet (regNum r) v s = _
  rw [execSet, regOf_regNum]
  exact if_neg (by simp [hw])

theorem set_busy (s : State) (r : Reg) (v : Word) (hw : regWritable r = true) (hb : s.mac.tx ≠ .none) :
    exec (.set (regNum r) v) s = .next { s with response := some (rspWord .errBusy 0#24) } := by
  rw [set_writable s r v hw, if_pos (busy_eq_true s hb)]
  rfl

theorem set_refused (s : State) (r : Reg) (v : Word) (hw : regWritable r = true) (hidle : s.mac.tx = .none)
    (hr : setRefused s.cfg r v = true) :
    exec (.set (regNum r) v) s = .next { s with response := some (rspWord .errParam 0#24) } := by
  rw [set_writable s r v hw, if_neg (by simp [busy_eq_false s hidle]), if_pos hr]
  rfl

theorem set_accepted (s : State) (r : Reg) (v : Word) (hw : regWritable r = true) (hidle : s.mac.tx = .none)
    (hr : setRefused s.cfg r v = false) :
    exec (.set (regNum r) v) s = .next ((s.writeReg r v).respond .ok 0#24) := by
  rw [set_writable s r v hw, if_neg (by simp [busy_eq_false s hidle]), if_neg (by simp [hr])]
  rfl

/-- Settles O32: a legal `SET` answers the state after `writeReg`, whose reads are the rules of the three banks. -/
theorem setOperation : Obligations.SetOperation := by
  intro s r v hidle hw hmin hmax
  have hr : setRefused s.cfg r v = false := by
    refine Bool.eq_false_iff.2 fun hr => ?_
    rcases (setRefused_iff s.cfg r v).1 hr with ⟨h, hlt⟩ | ⟨h, hlt⟩
    · exact absurd (hmin h) (Nat.not_le.2 hlt)
    · exact absurd (hmax h) (Nat.not_le.2 hlt)
  refine ⟨(s.writeReg r v).respond .ok 0#24, set_accepted s r v hw hidle hr, ?_, readReg_writeReg_same s r v hw,
    fun q hq hcw => readReg_writeReg_other s r q v hq hcw, ?_⟩
  · exact congrArg (fun t : State => t.respond .ok 0#24) (writeReg_shape s r v)
  · rintro (rfl | rfl)
    · exact ⟨ofNat_minW _, rfl⟩
    · exact ⟨ofNat_minW _, rfl⟩

/-- The numbers of the `RW` registers (R204). -/
theorem regWritable_iff (r : Reg) :
    regWritable r = true ↔
      (regNum r).toNat ≤ 0x19 ∨ (0x80 ≤ (regNum r).toNat ∧ (regNum r).toNat ≤ 0x88) ∨
        (0xA0 ≤ (regNum r).toNat ∧ (regNum r).toNat ≤ 0xAA) := by
  rcases r with r | r | r | r | r | r | r | r <;> cases r <;> decide

/-- The numbers of the `RO` registers (R67). -/
def ReadOnlyNum (n : BitVec 8) : Prop :=
  (0x40 ≤ n.toNat ∧ n.toNat ≤ 0x53 ∧ n.toNat ≠ 0x4D) ∨ (0x58 ≤ n.toNat ∧ n.toNat ≤ 0x5A) ∨
    (0x60 ≤ n.toNat ∧ n.toNat ≤ 0x69) ∨ (0xC0 ≤ n.toNat ∧ n.toNat ≤ 0xCE)

/-- The implemented numbers are those of the `RW` and of the `RO` registers, apart from each other. -/
theorem readOnlyNum_regNum_iff (r : Reg) : ReadOnlyNum (regNum r) ↔ regWritable r = false := by
  have himpl := implementedNum_regNum r
  rw [← Bool.not_eq_true, regWritable_iff]
  unfold ImplementedNum at himpl
  unfold ReadOnlyNum
  omega

theorem ReadOnlyNum.implemented {n : BitVec 8} (h : ReadOnlyNum n) : ImplementedNum n := by
  unfold ReadOnlyNum at h
  unfold ImplementedNum
  omega

theorem rspWord_ne_errRo {c : RspCode} (hc : c ≠ .errRo) : some (rspWord c 0#24) ≠ some (rspWord .errRo 0#24) := by
  cases c with
  | errRo => exact absurd rfl hc
  | _ => decide

/-- Past the check for a read-only register `SET` does not answer `ERR_RO`. -/
theorem set_writable_response (s t : State) (r : Reg) (v : Word) (hw : regWritable r = true)
    (ht : exec (.set (regNum r) v) s = .next t) : t.response ≠ some (rspWord .errRo 0#24) := by
  rw [set_writable s r v hw] at ht
  split at ht
  · obtain rfl := Host.Outcome.next.inj ht
    exact rspWord_ne_errRo (by decide)
  · split at ht
    · obtain rfl := Host.Outcome.next.inj ht
      exact rspWord_ne_errRo (by decide)
    · obtain rfl := Host.Outcome.next.inj ht
      exact rspWord_ne_errRo (by decide)

theorem set_errRo_iff (s t : State) (n : BitVec 8) (v : Word) (ht : exec (.set n v) s = .next t) :
    t.response = some (rspWord .errRo 0#24) ↔ ReadOnlyNum n := by
  by_cases hn : ImplementedNum n
  · obtain ⟨r, rfl⟩ := (implementedNum_iff n).1 hn
    rw [readOnlyNum_regNum_iff]
    rcases hw : regWritable r with _ | _
    · rw [set_readOnly s r v hw] at ht
      obtain rfl := Host.Outcome.next.inj ht
      exact ⟨fun _ => rfl, fun _ => rfl⟩
    · exact ⟨fun h => absurd h (set_writable_response s t r v hw ht), nofun⟩
  · rw [set_unimplemented s n v (regOf_eq_none_of_not_implementedNum n hn)] at ht
    obtain rfl := Host.Outcome.next.inj ht
    exact ⟨fun h => absurd h (rspWord_ne_errRo (by decide)), fun h => absurd h.implemented hn⟩

/-- Settles O33: one lemma for each answer, in the order of the checks. -/
theorem setRefuses : Obligations.SetRefuses := by
  refine ⟨regWritable_iff, fun s v n t ht => set_errRo_iff s t n v ht, fun s v => ⟨fun n hn => ?_, fun r hw => ?_,
    fun r hw hb => ?_, fun hidle hlt => ?_, fun hidle hlt => ?_⟩⟩
  · exact set_unimplemented s n v (regOf_eq_none n hn)
  · exact set_readOnly s r v hw
  · exact set_busy s r v hw hb
  · exact set_refused s (.cfg .minBE) v rfl hidle ((setRefused_iff ..).2 (.inl ⟨rfl, hlt⟩))
  · exact set_refused s (.cfg .maxBE) v rfl hidle ((setRefused_iff ..).2 (.inr ⟨rfl, hlt⟩))

/-! ## `ENCODE` from TXFR (R32, R140) -/

theorem txbufHolds_storeFrame (s : State) (b : List Byte) : txbufHolds s (s.storeFrame b) b := by
  refine ⟨fun k hk => ?_, fun a ha => ?_, fun _ => rfl, fun _ => rfl⟩
  · have h := Memory.read_writeRun_inside s.txbuf 0 b k hk
    rwa [Nat.zero_add] at h
  · exact Memory.read_writeRun_outside s.txbuf 0 b a (.inr (by rwa [Nat.zero_add]))

theorem encodeSource_payload_length (s : State) (off : Nat) :
    (s.encodeSource off).payload.length = (s.encodeSource off).segLen.toNat :=
  Memory.readRun_length _ _ _

/-- The addressing mode a 2-bit field names. -/
theorem eq_addrModeOf {m : AddrMode} {b : BitVec 2} (h : addrModeBits m = b) : m = addrModeOf b := by
  rw [← h, addrModeOf_bits]

theorem encode_idle (s : State) (len : BitVec 12) (off : BitVec 16) (hidle : s.mac.tx = .none) :
    exec (.encode len off) s = .next (s.encodeUnit len.toNat off.toNat) :=
  unitOp_idle s (fun s => s.encodeUnit len.toNat off.toNat) hidle

theorem encodeUnit_stores (s : State) (len off : Nat) (b : List Byte) (hlen : len ≤ 2048)
    (hmem : off + (s.encodeSource off).segLen.toNat ≤ 65536) (hb : encodeFrame (s.encodeSource off) len = some b) :
    s.encodeUnit len off = (s.storeFrame b).respond .ok ((fcsOf b).setWidth 24) := by
  have hfit : ¬ (Config.frameBufLen < len ∨ Config.reqmemLen < off + (s.encodeSource off).segLen.toNat) := by
    unfold Config.frameBufLen Config.reqmemLen
    omega
  unfold State.encodeUnit
  dsimp only
  rw [if_neg hfit, hb]

theorem encodeUnit_refuses (s : State) (len off : Nat)
    (h : 2048 < len ∨ len < expected (s.encodeSource off) ∨ 65536 < off + (s.encodeSource off).segLen.toNat) :
    s.encodeUnit len off = s.respond .errParam 0#24 := by
  unfold State.encodeUnit
  dsimp only
  split
  · rfl
  · rename_i hfit
    have hshort : len < expected (s.encodeSource off) := by
      unfold Config.frameBufLen Config.reqmemLen at hfit
      omega
    rw [encodeFrame_short _ _ hshort]

/-- Settles O16: the record of the statement is `encodeSource`, field by field; `encode` answers a frame of the length
asked for exactly from the expected length on. -/
theorem encodeOperation : Obligations.EncodeOperation := by
  intro s len off f hidle hsegLen hsegNum hlsf hcap htmr hftype hsec hpending hackReq hpanComp hdstMode hversion
    hsrcMode hseq hdstPan hsrcPan hdstAddr hsrcAddr hsecHdr hlength hbytes
  have hf : f = s.encodeSource off.toNat := by
    have hpayload : f.payload = (s.encodeSource off.toNat).payload := by
      refine bytes_ext ?_ fun k hk => ?_
      · rw [hlength, encodeSource_payload_length, hsegLen]
        rfl
      · rw [hbytes k hk, encodeSource_payload s off.toNat k]
        rw [hlength, hsegLen] at hk
        exact hk
    cases f
    exact Frame.mk.injEq .. ▸ ⟨hsegLen, hsegNum, hlsf, hcap, htmr, hftype, hsec, hpending, hackReq, hpanComp,
      eq_addrModeOf hdstMode, hversion, eq_addrModeOf hsrcMode, hseq, hdstPan, hsrcPan, hdstAddr, hsrcAddr, hsecHdr,
      hpayload⟩
  clear hbytes
  subst hf
  rw [encode_idle s len off hidle]
  constructor
  · intro hlen hexp hmem
    obtain ⟨b, hb, hblen⟩ := encodeFrame_length _ _ hlength hexp
    have htxLen : BitVec.ofNat 12 b.length = len := by rw [hblen, BitVec.ofNat_toNat, BitVec.setWidth_eq]
    refine ⟨b, _, hb, hblen, congrArg Host.Outcome.next (encodeUnit_stores s _ _ b hlen hmem hb), ?_,
      txbufHolds_storeFrame s b⟩
    rw [← htxLen]
    rfl
  · intro h
    rw [encodeUnit_refuses s _ _ h]
    rfl

end Sys2Proof.Machine

/-! The family of `20_memory.md`: which turn and which operation writes which of the three byte memories. -/

namespace Sys2Proof.Machine

/-! ## The environment's turns (R60, R301) -/

theorem step_idle (s : State) (hi : s.inputs = []) : step s = .next (s.takeTurn []) := by
  simp only [step, hi]

theorem step_reqmemWrite (s : State) (off : BitVec 16) (b : Byte) (rest : List Input)
    (hi : s.inputs = .reqmemWrite off b :: rest) : step s = .next ((s.takeTurn rest).writeReqmem off b) := by
  simp only [step, hi]

theorem step_rxbufWrite (s : State) (off : BitVec 11) (b : Byte) (rest : List Input)
    (hi : s.inputs = .rxbufWrite off b :: rest) : step s = .next ((s.takeTurn rest).writeRxbuf off b) := by
  simp only [step, hi]

/-- Settles O6: taking a turn drops the outputs alone, and a byte written reads back while every other is as before. -/
theorem environmentTurns : Obligations.EnvironmentTurns := by
  intro s rest
  refine ⟨fun hi => ?_, fun off b hi => ?_, fun off b hi => ?_⟩
  · rw [step_idle s hi, State.takeTurn, ← hi]
  · exact ⟨_, step_reqmemWrite s off b rest hi, rfl, Memory.read_write_same s.reqmem off.toNat b,
      fun a ha => Memory.read_write_other s.reqmem off.toNat a b ha⟩
  · exact ⟨_, step_rxbufWrite s off b rest hi, rfl, Memory.read_write_same s.rxbuf off.toNat b,
      fun a ha => Memory.read_write_other s.rxbuf off.toNat a b ha⟩

/-! ## What writes no memory -/

/-- The three memories of `t` are those of `s`. -/
structure KeepsMemories (s t : State) : Prop where
  txbuf : t.txbuf = s.txbuf
  rxbuf : t.rxbuf = s.rxbuf
  reqmem : t.reqmem = s.reqmem

theorem KeepsMemories.refl (s : State) : KeepsMemories s s := ⟨rfl, rfl, rfl⟩

theorem KeepsMemories.trans {s t u : State} (hst : KeepsMemories s t) (htu : KeepsMemories t u) : KeepsMemories s u :=
  ⟨htu.txbuf.trans hst.txbuf, htu.rxbuf.trans hst.rxbuf, htu.reqmem.trans hst.reqmem⟩

theorem keepsMemories_respond (s : State) (c : RspCode) (r : BitVec 24) : KeepsMemories s (s.respond c r) :=
  ⟨rfl, rfl, rfl⟩

theorem keepsMemories_writeReg (s : State) (r : Reg) (v : Word) : KeepsMemories s (s.writeReg r v) := by
  rw [writeReg_shape]
  exact ⟨rfl, rfl, rfl⟩

/-- A decode reads `RXBUF` and records what it found in registers (R131). -/
theorem keepsMemories_countDecode (s : State) (n : Nat) : KeepsMemories s (s.countDecode n) := by
  rcases countDecode_cases s n with ⟨code, -, hs⟩ | ⟨f, pad, -, hs⟩ <;> rw [hs]
  · exact ⟨rfl, rfl, rfl⟩
  · exact ⟨rfl, rfl, rfl⟩

theorem keepsMemories_confirmSuccess (s : State) (time : Word) : KeepsMemories s (s.confirmSuccess time) := by
  unfold State.confirmSuccess
  dsimp only
  split
  · exact ⟨rfl, rfl, rfl⟩
  · exact ⟨rfl, rfl, rfl⟩

theorem keepsMemories_txConfirmed (s : State) (status : PhyStatus) (time : Word) :
    KeepsMemories s (s.txConfirmed status time) := by
  have hclear : KeepsMemories s s.clearComp := ⟨rfl, rfl, rfl⟩
  unfold State.txConfirmed
  split
  · exact ⟨rfl, rfl, rfl⟩
  · cases status with
    | success => exact hclear.trans (keepsMemories_confirmSuccess _ time)
    | busyChannelSense | busyOwnRx | busyOwnTx | unknown => exact ⟨rfl, rfl, rfl⟩

theorem keepsMemories_interrupt (s : State) : KeepsMemories s s.interrupt := by
  unfold State.interrupt
  split
  · exact ⟨rfl, rfl, rfl⟩
  · exact .refl s

theorem keepsMemories_deliver (s : State) (f : Frame) (ack : Bool) (time : Word) :
    KeepsMemories s (s.deliver f ack time) := by
  have hemit (t : State) (e : Effect) : KeepsMemories t (t.emit e) := ⟨rfl, rfl, rfl⟩
  have hdata : KeepsMemories s (if s.cfg.addressFilter f then s.emit (.dataInd s.rxfr f.payload time) else s) := by
    split
    · exact hemit s _
    · exact .refl s
  unfold State.deliver
  dsimp only
  split
  · exact hdata.trans (hemit _ _)
  · exact hdata

theorem keepsMemories_received (s : State) (r : DecodeResult) (ack : Bool) (time : Word) :
    KeepsMemories s (s.received r ack time) := by
  cases r with
  | reject code => exact ⟨rfl, rfl, rfl⟩
  | ok f pad =>
    have hcomp : KeepsMemories s s.compensate := ⟨rfl, rfl, rfl⟩
    have hdone (t : State) (o : Occ) : KeepsMemories t ((t.enterOcc o).respond .ok 0#24) := ⟨rfl, rfl, rfl⟩
    exact ((hcomp.trans (keepsMemories_interrupt _)).trans (keepsMemories_deliver _ f ack time)).trans (hdone _ _)

theorem keepsMemories_acknowledged (s : State) (d : Delim) (sub : Bool) (fcs : BitVec 16) :
    KeepsMemories s (s.acknowledged d sub fcs) := by
  unfold State.acknowledged
  dsimp only
  split
  · exact ⟨rfl, rfl, rfl⟩
  · exact ⟨rfl, rfl, rfl⟩

/-- The operations that may write a memory: `RESET` clears the two buffers, the other three store an on-air frame. -/
def writesMemory (i : Instr) : Bool :=
  match i with
  | .reset _ | .encode _ _ | .nextseg _ _ | .poll => true
  | _ => false

theorem writesMemory_eq_false {i : Instr} (hreset : ∀ clr, i ≠ .reset clr)
    (hencode : ∀ len off, i ≠ .encode len off) (hnextseg : ∀ seg off, i ≠ .nextseg seg off) (hpoll : i ≠ .poll) :
    writesMemory i = false := by
  cases i with
  | reset clr => exact absurd rfl (hreset clr)
  | encode len off => exact absurd rfl (hencode len off)
  | nextseg seg off => exact absurd rfl (hnextseg seg off)
  | poll => exact absurd rfl hpoll
  | _ => rfl

theorem Does.keepsMemories {i : Instr} {s t : State} (h : Does i s t) (hi : writesMemory i = false) :
    KeepsMemories s t := by
  cases i with
  | reset | encode | nextseg | poll => cases hi
  | get => obtain rfl := h; exact ⟨rfl, rfl, rfl⟩
  | set n v =>
    obtain ⟨-, r, -, -, -, rfl⟩ := h
    exact (keepsMemories_writeReg s r v).trans (keepsMemories_respond _ _ _)
  | txreq => obtain ⟨-, -, rfl⟩ := h; exact ⟨rfl, rfl, rfl⟩
  | txcfm status time =>
    obtain rfl := h
    exact (keepsMemories_txConfirmed s status time).trans (keepsMemories_respond _ _ _)
  | rxind len ack time =>
    obtain rfl := h
    exact (keepsMemories_countDecode s _).trans (keepsMemories_received _ _ ack time)
  | ackind d sub fcs =>
    obtain rfl := h
    exact (keepsMemories_acknowledged s d sub fcs).trans (keepsMemories_respond _ _ _)
  | decode =>
    obtain ⟨-, r, rfl⟩ := h
    exact (keepsMemories_countDecode s _).trans (keepsMemories_respond _ _ _)
  | phycalc | fallback => obtain ⟨-, b, r, rfl⟩ := h; exact ⟨rfl, rfl, rfl⟩
  | crc16 | hdrlen | backoff | accfail | accok | compensate | segdone =>
    obtain ⟨-, r, rfl⟩ := h
    exact ⟨rfl, rfl, rfl⟩

/-! ## What stores an on-air frame (R62) -/

/-- The bytes of `TXBUF` at and beyond the `TX_LEN` of `t` are those of `s`. -/
def KeepsBeyondTxLen (s t : State) : Prop :=
  ∀ a, t.sess.txLen.toNat ≤ a → Memory.read t.txbuf a = Memory.read s.txbuf a

theorem keepsBeyondTxLen_of_txbuf_eq {s t : State} (h : t.txbuf = s.txbuf) : KeepsBeyondTxLen s t := by
  intro a _
  rw [h]

/-- A frame that fits `TXBUF` has its length in `TX_LEN` unreduced, and is written from offset 0. -/
theorem keepsBeyondTxLen_storeFrame (s : State) (b : List Byte) (hb : b.length ≤ 2048) :
    KeepsBeyondTxLen s (s.storeFrame b) := by
  intro a ha
  obtain ⟨-, hbeyond, -, -⟩ := txbufHolds_storeFrame s b
  have hlen : (s.storeFrame b).sess.txLen.toNat = b.length := by
    show (BitVec.ofNat 12 b.length).toNat = b.length
    rw [BitVec.toNat_ofNat]
    omega
  exact hbeyond a (hlen ▸ ha)

/-- One segment built on a state whose `TXBUF` is that of `s`. Two in a row would not do: the second may be the
shorter. -/
theorem Built.keepsBeyondTxLen {s v w : State} (hw : Built v w) (hv : v.txbuf = s.txbuf) : KeepsBeyondTxLen s w := by
  obtain ⟨b, hb, rfl⟩ := hw
  intro a ha
  rw [← hv]
  exact keepsBeyondTxLen_storeFrame v b hb a ha

/-! ## `POLL` builds at most one segment -/

theorem occTick_txbuf (s : State) : s.occTick.txbuf = s.txbuf := by
  obtain ⟨o, w, ho⟩ := occTick_shape s
  rw [ho]

theorem applyFallback_txbuf (s : State) : s.applyFallback.txbuf = s.txbuf := by
  rcases applyFallback_shape s with hs | ⟨b, hs⟩ <;> rw [hs]
  rfl

theorem tickFailCsmaCa_txbuf (s : State) : (tickFailCsmaCa s).txbuf = s.txbuf := by
  unfold tickFailCsmaCa
  split
  · rfl
  · split
    · rfl
    · rfl

theorem tickWaitAck_txbuf (s : State) : (tickWaitAck s).txbuf = s.txbuf := by
  unfold tickWaitAck
  split
  · rfl
  · rfl

theorem tickLittleFail_txbuf (s : State) : (tickLittleFail s).txbuf = s.txbuf := by
  unfold tickLittleFail
  split
  · rfl
  · rfl

theorem tickWaitSend_txbuf {s u : State} (h : tickWaitSend s = .next u) : u.txbuf = s.txbuf := by
  rcases tickWaitSend_cases s u h with ⟨-, rfl⟩ | ⟨time, sense, -, rfl⟩
  · rfl
  · rfl

theorem tickStart_keepsBeyondTxLen {s u : State} (h : tickStart s = .next u) : KeepsBeyondTxLen s u := by
  obtain ⟨b, v, -, hv, hu⟩ := tickStart_cases s u h
  have hbuf : v.txbuf = s.txbuf := by rw [hv]; rfl
  rcases hu with rfl | ⟨w, hw, rfl⟩
  · exact keepsBeyondTxLen_of_txbuf_eq hbuf
  · exact hw.keepsBeyondTxLen hbuf

theorem tickSendOk_keepsBeyondTxLen (s : State) : KeepsBeyondTxLen s (tickSendOk s) := by
  rcases tickSendOk_cases s with h | h | ⟨w, hw, h⟩ | h <;> rw [h]
  · exact keepsBeyondTxLen_of_txbuf_eq rfl
  · exact keepsBeyondTxLen_of_txbuf_eq rfl
  · exact hw.keepsBeyondTxLen rfl
  · exact keepsBeyondTxLen_of_txbuf_eq rfl

theorem tickBigFail_keepsBeyondTxLen (s : State) : KeepsBeyondTxLen s (tickBigFail s) := by
  rcases tickBigFail_cases s with h | ⟨v, hv, h⟩
  · rw [h]
    exact keepsBeyondTxLen_of_txbuf_eq rfl
  · have hbuf : v.txbuf = s.txbuf := by rw [hv, applyFallback_txbuf]; rfl
    rcases h with h | ⟨w, hw, h⟩ <;> rw [h]
    · exact keepsBeyondTxLen_of_txbuf_eq hbuf
    · exact hw.keepsBeyondTxLen hbuf

theorem txTick_keepsBeyondTxLen {s u : State} (h : txTick s = .next u) : KeepsBeyondTxLen s u := by
  unfold txTick at h
  rcases hx : s.mac.tx <;> rw [hx] at h <;> dsimp only at h
  case start => exact tickStart_keepsBeyondTxLen h
  case waitSend => exact keepsBeyondTxLen_of_txbuf_eq (tickWaitSend_txbuf h)
  all_goals obtain rfl := Host.Outcome.next.inj h
  case none | csmaCa | waitConfirm => exact keepsBeyondTxLen_of_txbuf_eq rfl
  case failCsmaCa => exact keepsBeyondTxLen_of_txbuf_eq (tickFailCsmaCa_txbuf s)
  case waitAck => exact keepsBeyondTxLen_of_txbuf_eq (tickWaitAck_txbuf s)
  case sendOk => exact tickSendOk_keepsBeyondTxLen s
  case littleFail => exact keepsBeyondTxLen_of_txbuf_eq (tickLittleFail_txbuf s)
  case bigFail => exact tickBigFail_keepsBeyondTxLen s

theorem poll_keepsBeyondTxLen {s t : State} (h : exec .poll s = .next t) : KeepsBeyondTxLen s t := by
  obtain ⟨u, hu, rfl⟩ := poll_cases s t h
  intro a ha
  rw [← occTick_txbuf s]
  exact txTick_keepsBeyondTxLen hu a ha

/-! ## Every operation -/

/-- What an operation other than `RESET` may write of the memories: an on-air frame in `TXBUF` (R62). -/
structure WritesOnAirAtMost (s t : State) : Prop where
  beyond : KeepsBeyondTxLen s t
  rxbuf : t.rxbuf = s.rxbuf
  reqmem : t.reqmem = s.reqmem

theorem KeepsMemories.writesOnAirAtMost {s t : State} (h : KeepsMemories s t) : WritesOnAirAtMost s t :=
  ⟨keepsBeyondTxLen_of_txbuf_eq h.txbuf, h.rxbuf, h.reqmem⟩

theorem PollFrame.rxbuf_eq {s t : State} (h : PollFrame s t) : t.rxbuf = s.rxbuf := by
  rw [h]

theorem PollFrame.reqmem_eq {s t : State} (h : PollFrame s t) : t.reqmem = s.reqmem := by
  rw [h]

theorem poll_writesOnAirAtMost {s t : State} (h : exec .poll s = .next t) : WritesOnAirAtMost s t := by
  have hframe := poll_pollFrame s t h
  exact ⟨poll_keepsBeyondTxLen h, hframe.rxbuf_eq, hframe.reqmem_eq⟩

theorem Does.writesOnAirAtMost {i : Instr} {s t : State} (h : Does i s t) (hreset : ∀ clr, i ≠ .reset clr) :
    WritesOnAirAtMost s t := by
  cases i with
  | reset clr => exact absurd rfl (hreset clr)
  | encode len off =>
    obtain ⟨-, b, r, hb, rfl⟩ := h
    exact ⟨keepsBeyondTxLen_storeFrame s b hb, rfl, rfl⟩
  | nextseg seg off =>
    obtain ⟨-, w, hw, rfl⟩ := h
    exact ⟨hw.keepsBeyondTxLen rfl, hw.pollFrame.rxbuf_eq, hw.pollFrame.reqmem_eq⟩
  | poll =>
    obtain ⟨u, hu, rfl⟩ := h
    exact poll_writesOnAirAtMost (poll_next s u hu)
  | _ => exact (Does.keepsMemories h rfl).writesOnAirAtMost

theorem exec_keepsMemories {i : Instr} {s t : State} (h : exec i s = .next t) (hi : writesMemory i = false) :
    KeepsMemories s t := by
  rcases exec_cases i s t h with ⟨c, -, rfl⟩ | hd
  · exact keepsMemories_respond s c _
  · exact hd.keepsMemories hi

theorem exec_writesOnAirAtMost {i : Instr} {s t : State} (h : exec i s = .next t) (hreset : ∀ clr, i ≠ .reset clr) :
    WritesOnAirAtMost s t := by
  rcases exec_cases i s t h with ⟨c, -, rfl⟩ | hd
  · exact (keepsMemories_respond s c _).writesOnAirAtMost
  · exact hd.writesOnAirAtMost hreset

/-- `REQMEM` is the host's to write; `RESET` too leaves it (R61). -/
theorem exec_reqmem {i : Instr} {s t : State} (h : exec i s = .next t) : t.reqmem = s.reqmem := by
  by_cases hreset : ∃ clr, i = .reset clr
  · obtain ⟨clr, rfl⟩ := hreset
    rw [← Host.Outcome.next.inj h]
    rfl
  · exact (exec_writesOnAirAtMost h (not_exists.1 hreset)).reqmem

/-- Settles O57: `RESET` apart, an operation keeps the memories or stores one frame of `TX_LEN` bytes from offset 0 of
`TXBUF`. -/
theorem memoryWriters : Obligations.MemoryWriters := by
  intro i s t h
  refine ⟨fun a => ?_, fun hreset a => ?_, fun hreset => ?_, fun hreset hencode hnextseg hpoll a => ?_⟩
  · rw [exec_reqmem h]
  · rw [(exec_writesOnAirAtMost h hreset).rxbuf]
  · exact (exec_writesOnAirAtMost h hreset).beyond
  · rw [(exec_keepsMemories h (writesMemory_eq_false hreset hencode hnextseg hpoll)).txbuf]

end Sys2Proof.Machine

/-! The family of `30_encoding.md`: decoder and encoder, the opcode table, error responses, and the frame codec's fields
on the wire. -/

namespace Sys2Proof

/-! ## Fields of a word built by concatenation

Stated at offsets `start + w`, so that they apply to the literal bit positions of the formats by computation. -/

theorem extractLsb'_append_above {v w : Nat} (x : BitVec v) (y : BitVec w) (start len : Nat) :
    (x ++ y).extractLsb' (start + w) len = x.extractLsb' start len := by
  rw [BitVec.extractLsb'_append_eq_of_le (Nat.le_add_left w start), Nat.add_sub_cancel]

theorem getLsbD_append_above {v w : Nat} (x : BitVec v) (y : BitVec w) (i : Nat) :
    (x ++ y).getLsbD (i + w) = x.getLsbD i := by
  rw [BitVec.getLsbD_append, if_neg (Nat.not_lt.2 (Nat.le_add_left w i)), Nat.add_sub_cancel]

theorem extractLsb'_middle {u v w : Nat} (x : BitVec u) (y : BitVec v) (z : BitVec w) :
    (x ++ y ++ z).extractLsb' w v = y := by
  have h := extractLsb'_append_above (x ++ y) z 0 v
  rw [Nat.zero_add] at h
  rw [h, BitVec.extractLsb'_append_eq_right]

theorem extractLsb'_top {u v w : Nat} (x : BitVec u) (y : BitVec v) (z : BitVec w) :
    (x ++ y ++ z).extractLsb' (v + w) u = x := by
  rw [extractLsb'_append_above, BitVec.extractLsb'_append_eq_left]

theorem getLsbD_flag {u w : Nat} (x : BitVec u) (f : Bool) (z : BitVec w) :
    (x ++ BitVec.ofBool f ++ z).getLsbD w = f := by
  have h := getLsbD_append_above (x ++ BitVec.ofBool f) z 0
  rw [Nat.zero_add] at h
  rw [h, BitVec.getLsbD_append]
  cases f <;> rfl

/-! ## Each format reads back the operands its word was built of (R101) -/

@[simp] theorem formatZ_wordZ (op : BitVec 8) (i : Instr) : formatZ (wordZ op) i = some i :=
  if_pos BitVec.extractLsb'_append_eq_left

@[simp] theorem formatF1_wordF1 (op : BitVec 8) (f : Bool) (g : Bool → Instr) :
    formatF1 (wordF1 op f) g = some (g f) := by
  have hz : (wordF1 op f).extractLsb' 9 23 = 0#23 := extractLsb'_top 0#23 (BitVec.ofBool f) op
  have hf : (wordF1 op f).getLsbD 8 = f := getLsbD_flag 0#23 f op
  rw [formatF1, if_pos hz, hf]

@[simp] theorem formatF2_wordF2 (op : BitVec 8) (f8 f9 : Bool) (g : Bool → Bool → Instr) :
    formatF2 (wordF2 op f8 f9) g = some (g f8 f9) := by
  have hz : (wordF2 op f8 f9).extractLsb' 10 22 = 0#22 :=
    (extractLsb'_append_above _ op 2 22).trans (extractLsb'_top 0#22 (BitVec.ofBool f9) (BitVec.ofBool f8))
  have h8 : (wordF2 op f8 f9).getLsbD 8 = f8 := getLsbD_flag (0#22 ++ BitVec.ofBool f9) f8 op
  have h9 : (wordF2 op f8 f9).getLsbD 9 = f9 :=
    (getLsbD_append_above _ op 1).trans (getLsbD_flag 0#22 f9 (BitVec.ofBool f8))
  rw [formatF2, if_pos hz, h8, h9]

@[simp] theorem formatB_wordB (op b : BitVec 8) (g : BitVec 8 → Instr) : formatB (wordB op b) g = some (g b) := by
  have hz : (wordB op b).extractLsb' 16 16 = 0#16 := extractLsb'_top 0#16 b op
  have hb : (wordB op b).extractLsb' 8 8 = b := extractLsb'_middle 0#16 b op
  rw [formatB, if_pos hz, hb]

@[simp] theorem formatS_wordS (op code : BitVec 8) (sub : Bool) (g : BitVec 8 → Bool → Instr) :
    formatS (wordS op code sub) g = some (g code sub) := by
  have hz : (wordS op code sub).extractLsb' 17 15 = 0#15 :=
    (extractLsb'_append_above _ op 9 15).trans (extractLsb'_top 0#15 (BitVec.ofBool sub) code)
  have hc : (wordS op code sub).extractLsb' 8 8 = code := extractLsb'_middle (0#15 ++ BitVec.ofBool sub) code op
  have hs : (wordS op code sub).getLsbD 16 = sub :=
    (getLsbD_append_above _ op 8).trans (getLsbD_flag 0#15 sub code)
  rw [formatS, if_pos hz, hc, hs]

theorem len_wordL (op : BitVec 8) (len : BitVec 12) (flag : Bool) : (wordL op len flag).extractLsb' 8 12 = len :=
  extractLsb'_middle (0#11 ++ BitVec.ofBool flag) len op

@[simp] theorem formatLFlag_wordL (op : BitVec 8) (len : BitVec 12) (flag : Bool) (g : BitVec 12 → Bool → Instr) :
    formatLFlag (wordL op len flag) g = some (g len flag) := by
  have hz : (wordL op len flag).extractLsb' 21 11 = 0#11 :=
    (extractLsb'_append_above _ op 13 11).trans (extractLsb'_top 0#11 (BitVec.ofBool flag) len)
  have hf : (wordL op len flag).getLsbD 20 = flag :=
    (getLsbD_append_above _ op 12).trans (getLsbD_flag 0#11 flag len)
  rw [formatLFlag, if_pos hz, len_wordL, hf]

@[simp] theorem formatL_wordL (op : BitVec 8) (len : BitVec 12) (g : BitVec 12 → Instr) :
    formatL (wordL op len false) g = some (g len) := by
  have hz : (wordL op len false).extractLsb' 20 12 = 0#12 := extractLsb'_top (0#11 ++ BitVec.ofBool false) len op
  rw [formatL, if_pos hz, len_wordL]

@[simp] theorem formatN_wordN (op : BitVec 8) (seg : BitVec 6) (g : BitVec 6 → Instr) :
    formatN (wordN op seg) g = some (g seg) := by
  have hz : (wordN op seg).extractLsb' 14 18 = 0#18 := extractLsb'_top 0#18 seg op
  have hs : (wordN op seg).extractLsb' 8 6 = seg := extractLsb'_middle 0#18 seg op
  rw [formatN, if_pos hz, hs]

@[simp] theorem lowHalf_halfWord (v : BitVec 16) : lowHalf (halfWord v) = v := BitVec.extractLsb'_append_eq_right

@[simp] theorem phyStatusOf_code (st : PhyStatus) (h : st.wellFormed = true) :
    phyStatusOf (phyStatusCode st) = st := by
  cases st with
  | unknown code =>
    have h4 : 4 ≤ code.toNat := of_decide_eq_true h
    have hne (k : BitVec 8) (hk : k.toNat < 4) : code ≠ k := by
      rintro rfl
      omega
    simp [phyStatusOf, phyStatusCode, hne 0#8 (by decide), hne 1#8 (by decide), hne 2#8 (by decide),
      hne 3#8 (by decide)]
  | success | busyChannelSense | busyOwnRx | busyOwnTx => rfl

@[simp] theorem delimOf_code (d : Delim) (h : d.wellFormed = true) : delimOf (delimCode d) = d := by
  cases d with
  | other code =>
    obtain ⟨h2, h3⟩ : code ≠ 2#8 ∧ code ≠ 3#8 := by simpa [Delim.wellFormed] using h
    simp [delimOf, delimCode, h2, h3]
  | ack | nack => rfl

/-! ## Decode after encode -/

@[simp] theorem opcode_wordZ (op : BitVec 8) : (wordZ op).extractLsb' 0 8 = op :=
  BitVec.extractLsb'_append_eq_right

@[simp] theorem opcode_wordF1 (op : BitVec 8) (f : Bool) : (wordF1 op f).extractLsb' 0 8 = op :=
  BitVec.extractLsb'_append_eq_right

@[simp] theorem opcode_wordF2 (op : BitVec 8) (f8 f9 : Bool) : (wordF2 op f8 f9).extractLsb' 0 8 = op :=
  BitVec.extractLsb'_append_eq_right

@[simp] theorem opcode_wordB (op b : BitVec 8) : (wordB op b).extractLsb' 0 8 = op :=
  BitVec.extractLsb'_append_eq_right

@[simp] theorem opcode_wordS (op code : BitVec 8) (sub : Bool) : (wordS op code sub).extractLsb' 0 8 = op :=
  BitVec.extractLsb'_append_eq_right

@[simp] theorem opcode_wordL (op : BitVec 8) (len : BitVec 12) (f : Bool) : (wordL op len f).extractLsb' 0 8 = op :=
  BitVec.extractLsb'_append_eq_right

@[simp] theorem opcode_wordN (op : BitVec 8) (seg : BitVec 6) : (wordN op seg).extractLsb' 0 8 = op :=
  BitVec.extractLsb'_append_eq_right

/-- Settles O1: the opcode of the encoded word selects the format the word was built in, which reads its operands
back. -/
theorem decodeOfEncode : Obligations.DecodeOfEncode := by
  intro i hwf
  cases i with
  | txreq | poll | hdrlen | accok | compensate | segdone => simp only [encode, decode, opcode_wordZ, formatZ_wordZ]
  | reset | phycalc | accfail => simp only [encode, decode, opcode_wordF1, formatF1_wordF1]
  | backoff => simp only [encode, decode, opcode_wordF2, formatF2_wordF2]
  | get | set | fallback => simp only [encode, decode, opcode_wordB, formatB_wordB]
  | txcfm status => simp only [encode, decode, opcode_wordB, formatB_wordB, phyStatusOf_code status hwf]
  | ackind delim =>
    simp only [encode, decode, opcode_wordS, formatS_wordS, delimOf_code delim hwf, lowHalf_halfWord]
  | rxind => simp only [encode, decode, opcode_wordL, formatLFlag_wordL]
  | crc16 | decode => simp only [encode, Sys2Proof.decode, opcode_wordL, formatL_wordL]
  | encode => simp only [Sys2Proof.encode, decode, opcode_wordL, formatL_wordL, lowHalf_halfWord]
  | nextseg => simp only [encode, decode, opcode_wordN, formatN_wordN, lowHalf_halfWord]

/-! ## The opcode table (R100, R101, R105) -/

/-- From which bit on `W0` must be 0 under an opcode, by its format; none for an opcode no operation has
(R100, R101). -/
def reservedFrom (op : BitVec 8) : Option Nat :=
  match op with
  | 0x04#8 | 0x05#8 | 0x21#8 | 0x27#8 | 0x28#8 | 0x2A#8 => some 8
  | 0x01#8 | 0x24#8 | 0x26#8 => some 9
  | 0x25#8 => some 10
  | 0x29#8 => some 14
  | 0x02#8 | 0x03#8 | 0x10#8 | 0x2B#8 => some 16
  | 0x12#8 => some 17
  | 0x20#8 | 0x22#8 | 0x23#8 => some 20
  | 0x11#8 => some 21
  | _ => none

/-- Bits `31..n` of `W0` are 0. -/
def ZeroFrom (n : Nat) (w0 : Word) : Prop := w0.extractLsb' n (32 - n) = 0#(32 - n)

theorem formatZ_eq_none_iff (w0 : Word) (i : Instr) : formatZ w0 i = none ↔ ¬ ZeroFrom 8 w0 := by
  simp [formatZ, ZeroFrom]

theorem formatF1_eq_none_iff (w0 : Word) (f : Bool → Instr) : formatF1 w0 f = none ↔ ¬ ZeroFrom 9 w0 := by
  simp [formatF1, ZeroFrom]

theorem formatF2_eq_none_iff (w0 : Word) (f : Bool → Bool → Instr) : formatF2 w0 f = none ↔ ¬ ZeroFrom 10 w0 := by
  simp [formatF2, ZeroFrom]

theorem formatN_eq_none_iff (w0 : Word) (f : BitVec 6 → Instr) : formatN w0 f = none ↔ ¬ ZeroFrom 14 w0 := by
  simp [formatN, ZeroFrom]

theorem formatB_eq_none_iff (w0 : Word) (f : BitVec 8 → Instr) : formatB w0 f = none ↔ ¬ ZeroFrom 16 w0 := by
  simp [formatB, ZeroFrom]

theorem formatS_eq_none_iff (w0 : Word) (f : BitVec 8 → Bool → Instr) : formatS w0 f = none ↔ ¬ ZeroFrom 17 w0 := by
  simp [formatS, ZeroFrom]

theorem formatL_eq_none_iff (w0 : Word) (f : BitVec 12 → Instr) : formatL w0 f = none ↔ ¬ ZeroFrom 20 w0 := by
  simp [formatL, ZeroFrom]

theorem formatLFlag_eq_none_iff (w0 : Word) (f : BitVec 12 → Bool → Instr) :
    formatLFlag w0 f = none ↔ ¬ ZeroFrom 21 w0 := by
  simp [formatLFlag, ZeroFrom]

/-- The decoder refuses a command by its opcode or by a must-be-zero bit, and by nothing else: opcode by opcode, the
refusal of its format. -/
theorem decode_eq_none_iff (c : Command) :
    decode c = none ↔ ∀ n, reservedFrom (c.w0.extractLsb' 0 8) = some n → ¬ ZeroFrom n c.w0 := by
  unfold decode
  generalize c.w0.extractLsb' 0 8 = op
  split <;>
    simp [reservedFrom, formatZ_eq_none_iff, formatF1_eq_none_iff, formatF2_eq_none_iff, formatN_eq_none_iff,
      formatB_eq_none_iff, formatS_eq_none_iff, formatL_eq_none_iff, formatLFlag_eq_none_iff, *]

/-- The row of an opcode whose `W0` must be 0 from bit `n` on: the mask leaves out the operand bits `n-1..8`. -/
def opcodeRow (op : BitVec 8) (n : Nat) : OpcodeRow := ⟨(BitVec.allOnes 32 <<< n) ||| 0xFF#32, op.setWidth 32⟩

/-- The table is `reservedFrom` written out. -/
theorem mem_opcodeTable_iff (r : OpcodeRow) :
    r ∈ opcodeTable ↔ ∃ op n, reservedFrom op = some n ∧ r = opcodeRow op n := by
  have hrow : ∀ r ∈ opcodeTable,
      (reservedFrom (r.value.setWidth 8)).map (opcodeRow (r.value.setWidth 8)) = some r := by decide
  have hop : ∀ op, ∀ n ∈ reservedFrom op, opcodeRow op n ∈ opcodeTable := by decide
  constructor
  · intro hr
    obtain ⟨n, hn, hrn⟩ := Option.map_eq_some_iff.1 (hrow r hr)
    exact ⟨_, n, hn, hrn.symm⟩
  · rintro ⟨op, n, hn, rfl⟩
    exact hop op n hn

theorem eight_le_of_reservedFrom {op : BitVec 8} {n : Nat} (h : reservedFrom op = some n) : 8 ≤ n := by
  have hle : ∀ op, ∀ n ∈ reservedFrom op, 8 ≤ n := by decide
  exact hle op n h

theorem opcodeRow_mask_getLsbD (op : BitVec 8) (n i : Nat) (hi : i < 32) :
    (opcodeRow op n).mask.getLsbD i = (decide (n ≤ i) || decide (i < 8)) := by
  have hlow : (0xFF#32).getLsbD i = decide (i < 8) := by
    revert i
    decide
  unfold opcodeRow
  rw [BitVec.getLsbD_or, hlow, BitVec.getLsbD_shiftLeft, BitVec.getLsbD_allOnes]
  congr 1
  simp only [hi, decide_true, Bool.true_and, decide_eq_decide, ← decide_not, ← Bool.decide_and]
  omega

/-- A word matches a row when it has the row's opcode and zeros in the reserved bits (R105). -/
theorem opcodeRow_fits_iff (op : BitVec 8) (n : Nat) (w0 : Word) (hn : 8 ≤ n) :
    (opcodeRow op n).fits w0 = true ↔ w0.extractLsb' 0 8 = op ∧ ZeroFrom n w0 := by
  have hbits : (opcodeRow op n).fits w0 = true ↔
      ∀ i, i < 32 → (w0.getLsbD i && (decide (n ≤ i) || decide (i < 8))) = (decide (i < 32) && op.getLsbD i) := by
    rw [OpcodeRow.fits, decide_eq_true_iff, BitVec.eq_of_getLsbD_eq_iff]
    refine forall₂_congr fun i hi => ?_
    rw [BitVec.getLsbD_and, opcodeRow_mask_getLsbD op n i hi, opcodeRow, BitVec.getLsbD_setWidth]
  rw [hbits]
  constructor
  · intro h
    constructor
    · apply BitVec.eq_of_getLsbD_eq
      intro i hi
      have hw := h i (by omega)
      simpa [hi, show i < 32 by omega] using hw
    · apply BitVec.eq_of_getLsbD_eq
      intro i hi
      have hw := h (n + i) (by omega)
      simpa [hi, show n + i < 32 by omega, BitVec.getLsbD_of_ge op (n + i) (by omega)] using hw
  · rintro ⟨rfl, hz⟩ i hi
    by_cases h8 : i < 8
    · simp [h8, hi]
    · by_cases hin : n ≤ i
      · have hw := congrArg (fun x => x.getLsbD (i - n)) hz
        simpa [h8, hin, hi, show i - n < 32 - n by omega] using hw
      · simp [h8, hin]

/-- Settles O2: opcode and reserved bits decide both the decoder and the table; the opcode of a word names its row. -/
theorem tableDecides : Obligations.TableDecides := by
  constructor
  · intro c
    rw [decode_eq_none_iff]
    constructor
    · intro h r hr
      obtain ⟨op, n, hn, rfl⟩ := (mem_opcodeTable_iff r).1 hr
      rw [Bool.eq_false_iff, ne_eq, opcodeRow_fits_iff op n c.w0 (eight_le_of_reservedFrom hn)]
      rintro ⟨rfl, hz⟩
      exact h n hn hz
    · intro h n hn hz
      have hfits := (opcodeRow_fits_iff _ n c.w0 (eight_le_of_reservedFrom hn)).2 ⟨rfl, hz⟩
      exact Bool.eq_false_iff.1 (h _ ((mem_opcodeTable_iff _).2 ⟨_, n, hn, rfl⟩)) hfits
  · intro w0 r q hr hq hrf hqf
    obtain ⟨op, n, hn, rfl⟩ := (mem_opcodeTable_iff r).1 hr
    obtain ⟨op', n', hn', rfl⟩ := (mem_opcodeTable_iff q).1 hq
    obtain ⟨rfl, -⟩ := (opcodeRow_fits_iff op n w0 (eight_le_of_reservedFrom hn)).1 hrf
    obtain ⟨rfl, -⟩ := (opcodeRow_fits_iff op' n' w0 (eight_le_of_reservedFrom hn')).1 hqf
    rw [hn, Option.some.injEq] at hn'
    rw [hn']

/-- Settles O3, by evaluation of the decoder at each word. -/
theorem decodedWords : Obligations.DecodedWords := by
  unfold Obligations.DecodedWords
  decide

/-! ## Illegal commands (R105) -/

/-- The opcodes no operation has. -/
theorem reservedFrom_eq_none (op : BitVec 8)
    (h : op = 0x00#8 ∨ (0x06 ≤ op.toNat ∧ op.toNat ≤ 0x0F) ∨ (0x13 ≤ op.toNat ∧ op.toNat ≤ 0x1F) ∨ 0x2C ≤ op.toNat) :
    reservedFrom op = none := by
  revert op
  decide

end Sys2Proof

namespace Sys2Proof.Machine

theorem step_of_decode_eq_none (s : State) (now : Word) (rnd : BitVec 16) (c : Command) (rest : List Input)
    (hi : s.inputs = .command now rnd c :: rest) (hd : Sys2Proof.decode c = none) :
    step s = .next ((s.takeTurn rest).sample now rnd).illegal := by
  simp only [step, hi, hd]

/-- Settles O5: a command with no row, or with an opcode of no operation, is refused by the decoder. -/
theorem illegalCommand : Obligations.IllegalCommand := by
  intro s now rnd c rest hi hc
  have hd : Sys2Proof.decode c = none := by
    rcases hc with hrow | hop
    · exact (tableDecides.1 c).2 hrow
    · rw [decode_eq_none_iff, reservedFrom_eq_none _ hop]
      exact nofun
  exact step_of_decode_eq_none s now rnd c rest hi hd

/-! ## Responses (R103, R282, R283) -/

/-- Settles O29: each of the twelve is a `unitOp`, which looks at `STATE.TX` before it applies its function. -/
theorem unitOperationsBusy : Obligations.UnitOperationsBusy := by
  intro s hx i hi
  change exec i s = .next (s.respond .errBusy 0#24)
  rcases hi with ⟨len, rfl⟩ | rfl | ⟨len, rfl⟩ | ⟨len, off, rfl⟩ | ⟨load, rfl⟩ | ⟨p, b, rfl⟩ | ⟨p, rfl⟩ | rfl | rfl |
    ⟨seg, off, rfl⟩ | rfl | ⟨r, rfl⟩
  all_goals
    simp only [exec, execCrc16, execHdrlen, execDecode, execEncode, execPhycalc, execBackoff, execAccfail, execAccok,
      execCompensate, execNextseg, execSegdone, execFallback, unitOp_busy s _ hx]

/-- An operation that is not refused answers `OK` (R282). -/
theorem Does.response_ok {i : Instr} {s t : State} (h : Does i s t) : ∃ r, t.response = some (rspWord .ok r) := by
  cases i with
  | reset | get | txcfm | ackind =>
    obtain rfl := h
    exact ⟨_, rfl⟩
  | rxind len ack time =>
    obtain rfl := h
    cases s.rxDecode len.toNat with
    | ok f pad => exact ⟨_, rfl⟩
    | reject code => exact ⟨_, rfl⟩
  | set =>
    obtain ⟨-, r, -, -, -, rfl⟩ := h
    exact ⟨_, rfl⟩
  | txreq =>
    obtain ⟨-, -, rfl⟩ := h
    exact ⟨_, rfl⟩
  | poll =>
    obtain ⟨u, -, rfl⟩ := h
    exact ⟨_, rfl⟩
  | encode =>
    obtain ⟨-, b, r, -, rfl⟩ := h
    exact ⟨_, rfl⟩
  | nextseg =>
    obtain ⟨-, w, -, rfl⟩ := h
    exact ⟨_, rfl⟩
  | phycalc | fallback =>
    obtain ⟨-, b, r, rfl⟩ := h
    exact ⟨_, rfl⟩
  | crc16 | hdrlen | decode | backoff | accfail | accok | compensate | segdone =>
    obtain ⟨-, r, rfl⟩ := h
    exact ⟨_, rfl⟩

/-- Settles O55: an operation answers an error and nothing else, or it does what it does and answers `OK`. -/
theorem errorsChangeNothing : Obligations.ErrorsChangeNothing := by
  refine ⟨rfl, fun c r => ?_, fun i s t w h hw hcode => ?_⟩
  · rw [rspWord, toNat_concat]
    omega
  · rcases exec_cases i s t h with ⟨c, -, rfl⟩ | hd
    · rw [State.respond_response] at hw
      rw [← hw]
      rfl
    · obtain ⟨r, hr⟩ := hd.response_ok
      rw [hr, Option.some.injEq] at hw
      rw [← hw, rspWord_code] at hcode
      exact absurd rfl hcode

/-! ## Header length (R89, R125) -/

theorem dstFieldLen_eq (m : AddrMode) :
    dstFieldLen m = if m = .none ∨ m = .reserved then 0 else if m = .short then 4 else 10 := by
  cases m <;> rfl

theorem srcFieldLen_eq (m : AddrMode) (panComp : Bool) :
    srcPanLen m panComp + addrLen m =
      if m = .none ∨ m = .reserved then 0 else (if panComp then 0 else 2) + (if m = .short then 2 else 8) := by
  cases m <;> cases panComp <;> rfl

/-- Settles O13: the three variable parts, and the length of the bytes `encode` writes for the header. -/
theorem headerLength : Obligations.HeaderLength := by
  intro f
  refine ⟨?_, six_le_hdrLen f, hdrLen_le f, headerBytes_length f, rfl⟩
  rw [← dstFieldLen_eq, ← srcFieldLen_eq, ← secLen_eq]
  unfold hdrLen secOffset srcAddrOffset srcOffset
  omega

/-! ## The parts of an encoded header (R80) -/

/-- The fixed fields, bytes 0 to 5 (R83, R84, R85). -/
def headerFixed (f : Frame) : List Byte := segControlBytes f ++ bytesLe (fcImage f) 2 ++ [f.seq]

/-- The header up to the source fields. -/
def headerToSrc (f : Frame) : List Byte :=
  headerFixed f ++ dstPanBytes f.dstMode f.dstPan ++ addrBytes f.dstMode f.dstAddr

/-- The header up to the source address. -/
def headerToSrcAddr (f : Frame) : List Byte := headerToSrc f ++ srcPanBytes f.srcMode f.panComp f.srcPan

/-- The header up to the security header. -/
def headerToSec (f : Frame) : List Byte := headerToSrcAddr f ++ addrBytes f.srcMode f.srcAddr

theorem headerBytes_eq (f : Frame) :
    headerBytes f = headerToSec f ++ (if secCarried f then bytesLe f.secHdr 6 else []) := rfl

theorem headerFixed_length (f : Frame) : (headerFixed f).length = 6 := rfl

theorem headerToSrc_length (f : Frame) : (headerToSrc f).length = srcOffset f := by
  unfold headerToSrc srcOffset
  rw [List.length_append, List.length_append, headerFixed_length]
  cases f.dstMode <;> rfl

theorem srcPanBytes_length (m : AddrMode) (panComp : Bool) (p : BitVec 16) :
    (srcPanBytes m panComp p).length = srcPanLen m panComp := by
  cases m <;> cases panComp <;> rfl

theorem addrBytes_length (m : AddrMode) (a : BitVec 64) : (addrBytes m a).length = addrLen m := by
  cases m <;> rfl

theorem headerToSrcAddr_length (f : Frame) : (headerToSrcAddr f).length = srcAddrOffset f := by
  rw [headerToSrcAddr, List.length_append, headerToSrc_length, srcPanBytes_length, srcAddrOffset]

theorem headerToSec_length (f : Frame) : (headerToSec f).length = secOffset f := by
  rw [headerToSec, List.length_append, headerToSrcAddr_length, addrBytes_length, secOffset]

theorem headerToSec_starts (f : Frame) : headerToSec f <+: headerBytes f := ⟨_, rfl⟩

theorem headerToSrcAddr_starts (f : Frame) : headerToSrcAddr f <+: headerBytes f :=
  List.IsPrefix.trans ⟨_, rfl⟩ (headerToSec_starts f)

theorem headerToSrc_starts (f : Frame) : headerToSrc f <+: headerBytes f :=
  List.IsPrefix.trans ⟨_, rfl⟩ (headerToSrcAddr_starts f)

theorem headerFixed_starts (f : Frame) : headerFixed f <+: headerBytes f :=
  List.IsPrefix.trans ⟨_, (List.append_assoc ..).symm⟩ (headerToSrc_starts f)

/-! ## Bytes that start with a header -/

theorem byteAt_of_headerFixed {f : Frame} {b : List Byte} (h : headerFixed f <+: b) {k : Nat} (hk : k < 6) :
    byteAt b k = byteAt (headerFixed f) k := by
  obtain ⟨post, rfl⟩ := h
  exact List.getD_append _ post 0#8 k hk

/-- A value written after `pre` is a field where `pre` ends. -/
theorem fieldAt_of_start {w : Nat} {b pre : List Byte} {n p : Nat} {v : BitVec w} (h : pre ++ bytesLe v n <+: b)
    (hp : pre.length = p) : fieldAt b p n v := by
  obtain ⟨post, rfl⟩ := h
  exact fieldAt_of_append _ pre post p n v (List.append_assoc pre (bytesLe v n) post) hp

/-- The addressing fields and the security header stand where the header lengths say (R81, R82, R86, R87). -/
theorem addressingAt_of_headerBytes {f : Frame} {b : List Byte} (h : headerBytes f <+: b) : addressingAt f b := by
  have hsec : headerToSec f <+: b := (headerToSec_starts f).trans h
  have hsrcAddr : headerToSrcAddr f <+: b := (headerToSrcAddr_starts f).trans h
  have hsrc : headerToSrc f <+: b := (headerToSrc_starts f).trans h
  rw [addressingAt_iff]
  refine ⟨fun hm => ?_, fun hm => ?_, fun hm hc => ?_, fun hm hc => ?_, fun hm => ?_, fun hm => ?_, fun hs hn => ?_⟩
  · rw [headerToSrc, hm] at hsrc
    exact ⟨fieldAt_of_start (List.IsPrefix.trans ⟨_, rfl⟩ hsrc) rfl, fieldAt_of_start hsrc rfl⟩
  · rw [headerToSrc, hm] at hsrc
    exact ⟨fieldAt_of_start (List.IsPrefix.trans ⟨_, rfl⟩ hsrc) rfl, fieldAt_of_start hsrc rfl⟩
  · rw [headerToSrcAddr, hm, hc] at hsrcAddr
    exact fieldAt_of_start hsrcAddr (headerToSrc_length f)
  · rw [headerToSrcAddr, hm, hc] at hsrcAddr
    exact fieldAt_of_start hsrcAddr (headerToSrc_length f)
  · rw [headerToSec, hm] at hsec
    exact fieldAt_of_start hsec (headerToSrcAddr_length f)
  · rw [headerToSec, hm] at hsec
    exact fieldAt_of_start hsec (headerToSrcAddr_length f)
  · have hcarried : secCarried f = true := by simp [secCarried, hs, hn]
    rw [headerBytes_eq, if_pos hcarried] at h
    exact fieldAt_of_start h (headerToSec_length f)

/-- Segment control, bytes 0 to 2 (R83). -/
theorem segControl_toNat {f : Frame} {b : List Byte} (h : headerFixed f <+: b) :
    (byteAt b 0).toNat = 8 * f.tmr.toNat + 2 * f.cap.toNat + f.lsf.toNat ∧
      (byteAt b 1).toNat = 4 * f.segNum.toNat + f.segLen.toNat / 256 ∧
      (byteAt b 2).toNat = f.segLen.toNat % 256 := by
  have hb0 : byteAt b 0 = 0#4 ++ BitVec.ofBool f.tmr ++ 0#1 ++ BitVec.ofBool f.cap ++ BitVec.ofBool f.lsf :=
    byteAt_of_headerFixed h (k := 0) (by decide)
  have hb1 : byteAt b 1 = f.segNum ++ f.segLen.extractLsb' 8 2 := byteAt_of_headerFixed h (k := 1) (by decide)
  have hb2 : byteAt b 2 = f.segLen.extractLsb' 0 8 := byteAt_of_headerFixed h (k := 2) (by decide)
  have := f.segLen.isLt
  rw [hb0, hb1, hb2]
  simp only [toNat_concat, BitVec.toNat_ofBool, BitVec.toNat_ofNat, BitVec.extractLsb'_toNat,
    Nat.shiftRight_eq_div_pow]
  omega

/-- Frame control, bytes 3 and 4, the reserved bits 0 (R84). -/
theorem frameControl_toNat {f : Frame} {b : List Byte} (h : headerFixed f <+: b) :
    (byteAt b 3).toNat + 256 * (byteAt b 4).toNat = (fcImage f).toNat := by
  have hb3 : byteAt b 3 = (fcImage f).extractLsb' (8 * 0) 8 := byteAt_of_headerFixed h (k := 3) (by decide)
  have hb4 : byteAt b 4 = (fcImage f).extractLsb' (8 * 1) 8 := byteAt_of_headerFixed h (k := 4) (by decide)
  have := (fcImage f).isLt
  rw [hb3, hb4, toNat_extractByte, toNat_extractByte]
  omega

/-! ## The bytes `encode` answers (R138) -/

theorem coveredBytes_eq (f : Frame) (total : Nat) (hp : f.payload.length = f.segLen.toNat) :
    coveredBytes f total = headerBytes f ++ (f.payload ++ List.replicate (total - expected f) 0#8) := by
  have hpad : total - (headerBytes f ++ f.payload).length - 2 = total - expected f := by
    rw [List.length_append, headerBytes_length, hp, expected]
    omega
  rw [coveredBytes, hpad, List.append_assoc]

/-- Settles O8: the check sequence follows the covered bytes, which are header, payload and padding. -/
theorem encodedFrameBytes : Obligations.EncodedFrameBytes := by
  intro f total hp
  refine ⟨encodeFrame_short f total, fun he => ?_⟩
  obtain ⟨b, hb, hlen⟩ := encodeFrame_length f total hp he
  obtain ⟨-, hcov⟩ := encodeFrame_cases f total b hb
  have hparts : b = headerBytes f ++
      (f.payload ++ (List.replicate (total - expected f) 0#8 ++ fcsBytes (coveredBytes f total))) := by
    rw [hcov, coveredBytes_eq f total hp, List.append_assoc, List.append_assoc]
  have hhdr : headerBytes f <+: b := ⟨_, hparts.symm⟩
  have hfixed : headerFixed f <+: b := (headerFixed_starts f).trans hhdr
  have htake : b.take (total - 2) = coveredBytes f total := by
    rw [hcov, List.take_left' (coveredBytes_length f total hp he)]
  obtain ⟨h0, h1, h2⟩ := segControl_toNat hfixed
  refine ⟨b, hb, hlen, h0, h1, h2, ?_, ?_, ?_, ?_, fun k hk hkt => ?_, addressingAt_of_headerBytes hhdr, ?_, ?_⟩
  · rw [frameControl_toNat hfixed, fcImage_toNat]
  · exact byteAt_of_headerFixed hfixed (k := 5) (by decide)
  · rw [hparts, List.take_left' (headerBytes_length f)]
  · rw [hparts, List.drop_left' (headerBytes_length f), List.take_left' hp]
  · have hkp : (headerBytes f ++ f.payload).length ≤ k := by rwa [List.length_append, headerBytes_length, hp]
    have hpad : k - (headerBytes f ++ f.payload).length < total - expected f := by
      rw [List.length_append, headerBytes_length, hp, expected]
      omega
    rw [hparts, ← List.append_assoc, byteAt, List.getD_append_right _ _ _ _ hkp,
      List.getD_append _ _ _ _ (by rwa [List.length_replicate]), List.getD_replicate _ hpad]
  · rw [htake]
    refine fieldAt_of_start (pre := coveredBytes f total) ⟨[], ?_⟩ (coveredBytes_length f total hp he)
    rw [List.append_nil, hcov, fcsBytes]
  · rw [htake, hcov, fcsOf_append]

/-! ## The fixed fields as `decode` reads them (R83, R84, R91) -/

theorem leAt_two (b : List Byte) (p : Nat) : leAt 16 b p 2 = byteAt b (p + 1) ++ byteAt b p := by
  have h := fieldAt_leAt 16 b p 2 (by decide)
  have hlo : byteAt b p = (leAt 16 b p 2).extractLsb' 0 8 := h 0 (by decide)
  have hhi : byteAt b (p + 1) = (leAt 16 b p 2).extractLsb' 8 8 := h 1 (by decide)
  rw [hlo, hhi]
  exact (BitVec.extractLsb'_append_extractLsb' (w := 8) (len := 8)).symm

/-- Segment control, bytes 0 to 2. -/
theorem decodeFixed_segControl (b : List Byte) :
    (decodeFixed b).tmr = (byteAt b 0).getLsbD 3 ∧ (decodeFixed b).cap = (byteAt b 0).getLsbD 1 ∧
      (decodeFixed b).lsf = (byteAt b 0).getLsbD 0 ∧ (decodeFixed b).segNum = (byteAt b 1).extractLsb' 2 6 ∧
      (decodeFixed b).segLen = (byteAt b 1).extractLsb' 0 2 ++ byteAt b 2 := by
  unfold decodeFixed
  dsimp only
  generalize byteAt b 0 = b0
  generalize byteAt b 1 = b1
  generalize byteAt b 2 = b2
  generalize b0.getLsbD 3 = tmr
  generalize b0.getLsbD 1 = cap
  generalize b0.getLsbD 0 = lsf
  refine ⟨?_, ?_, ?_, ?_, ?_⟩
  · calc
      _ = (BitVec.ofBool tmr ++ BitVec.ofBool cap ++ BitVec.ofBool lsf ++ b1).getLsbD 10 := getLsbD_append_above _ b2 10
      _ = (BitVec.ofBool tmr ++ BitVec.ofBool cap ++ BitVec.ofBool lsf).getLsbD 2 := getLsbD_append_above _ b1 2
      _ = (BitVec.ofBool tmr ++ BitVec.ofBool cap).getLsbD 1 := getLsbD_append_above _ (BitVec.ofBool lsf) 1
      _ = (BitVec.ofBool tmr).getLsbD 0 := getLsbD_append_above _ (BitVec.ofBool cap) 0
      _ = tmr := by simp
  · calc
      _ = (BitVec.ofBool tmr ++ BitVec.ofBool cap ++ BitVec.ofBool lsf ++ b1).getLsbD 9 := getLsbD_append_above _ b2 9
      _ = (BitVec.ofBool tmr ++ BitVec.ofBool cap ++ BitVec.ofBool lsf).getLsbD 1 := getLsbD_append_above _ b1 1
      _ = cap := getLsbD_flag (BitVec.ofBool tmr) cap (BitVec.ofBool lsf)
  · calc
      _ = (BitVec.ofBool tmr ++ BitVec.ofBool cap ++ BitVec.ofBool lsf ++ b1).getLsbD 8 := getLsbD_append_above _ b2 8
      _ = lsf := getLsbD_flag (BitVec.ofBool tmr ++ BitVec.ofBool cap) lsf b1
  · exact (extractLsb'_append_above _ b2 2 6).trans (BitVec.extractLsb'_append_eq_of_add_le (by decide))
  · apply BitVec.eq_of_toNat_eq
    simp only [frameOfControl, BitVec.extractLsb'_toNat, toNat_concat, Nat.shiftRight_eq_div_pow]
    omega

/-- Frame control, bytes 3 and 4, whatever the reserved bits 9..7 are. -/
theorem decodeFixed_frameControl (b : List Byte) :
    (decodeFixed b).ftype = (byteAt b 3).extractLsb' 0 3 ∧ (decodeFixed b).sec = (byteAt b 3).getLsbD 3 ∧
      (decodeFixed b).pending = (byteAt b 3).getLsbD 4 ∧ (decodeFixed b).ackReq = (byteAt b 3).getLsbD 5 ∧
      (decodeFixed b).panComp = (byteAt b 3).getLsbD 6 ∧
      addrModeBits (decodeFixed b).dstMode = (byteAt b 4).extractLsb' 2 2 ∧
      (decodeFixed b).version = (byteAt b 4).extractLsb' 4 2 ∧
      addrModeBits (decodeFixed b).srcMode = (byteAt b 4).extractLsb' 6 2 := by
  have hlow (i : Nat) (hi : i < 8) : (leAt 16 b 3 2).getLsbD i = (byteAt b 3).getLsbD i := by
    rw [leAt_two, BitVec.getLsbD_append, if_pos hi]
  have hhigh (start len : Nat) :
      (leAt 16 b 3 2).extractLsb' (start + 8) len = (byteAt b 4).extractLsb' start len := by
    rw [leAt_two]
    exact extractLsb'_append_above (byteAt b 4) (byteAt b 3) start len
  have htype : (leAt 16 b 3 2).extractLsb' 0 3 = (byteAt b 3).extractLsb' 0 3 := by
    rw [leAt_two]
    exact BitVec.extractLsb'_append_eq_of_add_le (by decide)
  refine ⟨htype, hlow 3 (by decide), hlow 4 (by decide), hlow 5 (by decide), hlow 6 (by decide), ?_, hhigh 4 2, ?_⟩
  · exact (addrModeBits_of _).trans (hhigh 2 2)
  · exact (addrModeBits_of _).trans (hhigh 6 2)

/-! ## Absent fields (R135) -/

theorem canonicalDstPan_idem (m : AddrMode) (p : BitVec 16) :
    canonicalDstPan m (canonicalDstPan m p) = canonicalDstPan m p := by
  cases m <;> rfl

theorem canonicalSrcPan_idem (m : AddrMode) (panComp : Bool) (d p : BitVec 16) :
    canonicalSrcPan m panComp d (canonicalSrcPan m panComp d p) = canonicalSrcPan m panComp d p := by
  cases m <;> cases panComp <;> rfl

/-- A short address read from two bytes has nothing above its 16 bits. -/
theorem leAt_short_high (b : List Byte) (p : Nat) : (leAt 64 b p 2).extractLsb' 16 48 = 0#48 := by
  have hlen : ((b.drop p).take 2).length ≤ 2 := List.length_take_le _ _
  have hlt : leNat ((b.drop p).take 2) < 256 ^ 2 := (leNat_lt _).trans_le (Nat.pow_le_pow_right (by decide) hlen)
  apply BitVec.eq_of_toNat_eq
  rw [BitVec.extractLsb'_toNat, leAt, BitVec.toNat_ofNat, Nat.shiftRight_eq_div_pow]
  show _ = 0
  omega

theorem canonicalAddr_decodeAddr (m : AddrMode) (b : List Byte) (p : Nat) :
    canonicalAddr m (decodeAddr m b p) = decodeAddr m b p := by
  cases m with
  | short =>
    show ((leAt 64 b p 2).extractLsb' 0 16).setWidth 64 = leAt 64 b p 2
    have h := congrArg BitVec.toNat (leAt_short_high b p)
    apply BitVec.eq_of_toNat_eq
    rw [BitVec.extractLsb'_toNat, Nat.shiftRight_eq_div_pow] at h
    rw [BitVec.toNat_setWidth, BitVec.extractLsb'_toNat, Nat.shiftRight_eq_div_pow]
    have := (leAt 64 b p 2).isLt
    change _ = 0 at h
    omega
  | none | reserved | extended => rfl

/-- The record `decode` makes of fixed fields and bytes has its absent fields canonical. -/
theorem canonical_decoded (f : Frame) (b : List Byte) :
    canonical (withPayload (decodeVariable f b) b) = withPayload (decodeVariable f b) b := by
  have hsec (v : BitVec 48) : (if secCarried f then (if secCarried f then v else 0#48) else 0#48) =
      if secCarried f then v else 0#48 := by
    split <;> rfl
  have hcarried : secCarried (withPayload (decodeVariable f b) b) = secCarried f := rfl
  rw [canonical, hcarried]
  simp only [withPayload, decodeVariable, canonicalDstPan_idem, canonicalSrcPan_idem, canonicalAddr_decodeAddr, hsec]

/-! ## What `decode` accepts (R129, R133) -/

theorem Frame.wf_iff (f : Frame) :
    f.wf = true ↔
      f.ftype.toNat < 4 ∧ f.pending = false ∧ f.dstMode ≠ .reserved ∧ f.srcMode ≠ .reserved ∧
        (f.srcMode = .short → f.srcAddr.extractLsb' 0 16 ≠ Config.shortAddrUndefined) ∧
        f.payload.length = f.segLen.toNat ∧ canonical f = f := by
  simp [Frame.wf, and_assoc, imp_iff_not_or]

/-- The last check of R129, which `decodeFrame_ok` leaves out. -/
theorem decodeFrame_ok_srcDefined {b : List Byte} {f : Frame} {pad : Nat} (h : decodeFrame b = .ok f pad)
    (hm : f.srcMode = .short) : f.srcAddr.extractLsb' 0 16 ≠ Config.shortAddrUndefined := by
  unfold decodeFrame at h
  dsimp only at h
  split at h; · cases h
  split at h; · cases h
  split at h; · cases h
  split at h; · cases h
  split at h; · cases h
  split at h; · cases h
  split at h; · cases h
  rename_i hsrc
  obtain ⟨rfl, -⟩ := DecodeResult.ok.inj h
  exact fun hu => hsrc ⟨hm, hu⟩

/-! ## The addressing fields and the security header as `decode` reads them (R129, R135) -/

theorem decodeVariable_dstPan (f : Frame) (b : List Byte) {m : AddrMode} (hm : f.dstMode = m) :
    (decodeVariable f b).dstPan = canonicalDstPan m (leAt 16 b 6 2) :=
  hm ▸ rfl

theorem decodeVariable_dstAddr (f : Frame) (b : List Byte) {m : AddrMode} (hm : f.dstMode = m) :
    (decodeVariable f b).dstAddr = decodeAddr m b 8 :=
  hm ▸ rfl

theorem decodeVariable_srcPan (f : Frame) (b : List Byte) {m : AddrMode} {panComp : Bool} (hm : f.srcMode = m)
    (hc : f.panComp = panComp) :
    (decodeVariable f b).srcPan =
      canonicalSrcPan m panComp (decodeVariable f b).dstPan (leAt 16 b (srcOffset f) 2) :=
  hm ▸ hc ▸ rfl

theorem decodeVariable_srcAddr (f : Frame) (b : List Byte) {m : AddrMode} (hm : f.srcMode = m) :
    (decodeVariable f b).srcAddr = decodeAddr m b (srcAddrOffset f) :=
  hm ▸ rfl

theorem decodeVariable_secHdr (f : Frame) (b : List Byte) :
    (decodeVariable f b).secHdr = if f.sec = true ∧ f.segNum = 0#6 then leAt 48 b (secOffset f) 6 else 0#48 := by
  simp [decodeVariable, secCarried]

theorem fieldAt_of_eq_leAt {w : Nat} {v : BitVec w} {b : List Byte} {p n : Nat} (h : v = leAt w b p n)
    (hn : 8 * n ≤ w) : fieldAt b p n v :=
  h ▸ fieldAt_leAt w b p n hn

/-- What is present stands where it was read. -/
theorem addressingAt_decoded (f : Frame) (b : List Byte) : addressingAt (withPayload (decodeVariable f b) b) b := by
  rw [addressingAt_iff]
  refine ⟨fun hm => ⟨?_, ?_⟩, fun hm => ⟨?_, ?_⟩, fun hm hc => ?_, fun hm hc => ?_, fun hm => ?_, fun hm => ?_,
    fun hs hn => ?_⟩
  · exact fieldAt_of_eq_leAt (decodeVariable_dstPan f b hm) (by decide)
  · exact fieldAt_of_eq_leAt (decodeVariable_dstAddr f b hm) (by decide)
  · exact fieldAt_of_eq_leAt (decodeVariable_dstPan f b hm) (by decide)
  · exact fieldAt_of_eq_leAt (decodeVariable_dstAddr f b hm) (by decide)
  · exact fieldAt_of_eq_leAt (decodeVariable_srcPan f b hm hc) (by decide)
  · exact fieldAt_of_eq_leAt (decodeVariable_srcPan f b hm hc) (by decide)
  · exact fieldAt_of_eq_leAt (decodeVariable_srcAddr f b hm) (by decide)
  · exact fieldAt_of_eq_leAt (decodeVariable_srcAddr f b hm) (by decide)
  · exact fieldAt_of_eq_leAt ((decodeVariable_secHdr f b).trans (if_pos ⟨hs, hn⟩)) (by decide)

/-- The payload is `segLen` bytes long when the frame is at least as long as its fields say. -/
theorem withPayload_length (f : Frame) (b : List Byte) (h : expected f ≤ b.length) :
    (withPayload f b).payload.length = f.segLen.toNat := by
  show ((b.drop (hdrLen f)).take f.segLen.toNat).length = _
  rw [expected] at h
  rw [List.length_take, List.length_drop]
  omega

/-- Settles O9: each field is read at the codec's offset, after the checks that make the record well-formed. -/
theorem acceptedFrame : Obligations.AcceptedFrame := by
  intro b f pad h
  have hsrc := decodeFrame_ok_srcDefined h
  obtain ⟨-, -, htype, hpending, hdm, hsm, hexp, rfl, rfl⟩ := decodeFrame_ok b f pad h
  obtain ⟨htmr, hcap, hlsf, hsegNum, hsegLen⟩ := decodeFixed_segControl b
  obtain ⟨hftype, hsec, hpend, hackReq, hpanComp, hdstMode, hversion, hsrcMode⟩ := decodeFixed_frameControl b
  have hwf : (withPayload (decodeVariable (decodeFixed b) b) b).wf = true :=
    (Frame.wf_iff _).2 ⟨htype, hpending, hdm, hsm, hsrc, withPayload_length _ b hexp, canonical_decoded _ b⟩
  refine ⟨hwf, Nat.add_sub_cancel' hexp, rfl,
    ⟨htmr, hcap, hlsf, hsegNum, hsegLen, hftype, hsec, hpend, hackReq, hpanComp, hdstMode, hversion, hsrcMode, rfl⟩,
    addressingAt_decoded _ b, fun hm => ⟨?_, ?_⟩, fun hm => ?_, fun hm => ⟨?_, ?_⟩, fun hm => ?_, fun hm hc => ?_,
    fun hn => ?_⟩
  · exact decodeVariable_dstPan _ b hm
  · exact decodeVariable_dstAddr _ b hm
  · exact (congrArg _ (decodeVariable_dstAddr _ b hm)).trans (leAt_short_high b 8)
  · exact decodeVariable_srcPan _ b hm rfl
  · exact decodeVariable_srcAddr _ b hm
  · exact (congrArg _ (decodeVariable_srcAddr _ b hm)).trans (leAt_short_high b _)
  · have hpan {m : AddrMode} (hm : (decodeFixed b).srcMode = m) := decodeVariable_srcPan (decodeFixed b) b hm hc
    cases hmode : (decodeFixed b).srcMode with
    | none => exact absurd hmode hm
    | reserved => exact absurd hmode hsm
    | short => exact hpan hmode
    | extended => exact hpan hmode
  · exact (decodeVariable_secHdr _ b).trans (if_neg hn)

end Sys2Proof.Machine

/-! The family of `40_frame_codec.md`: the check sequence, what `decode` rejects and accepts, the round trip, and the
operations that answer what the codec finds. -/

namespace Sys2Proof.Machine

/-! ## The shift register of the check sequence (R120) -/

theorem crcBit_eq (c : BitVec 16) : crcBit c = if c.getLsbD 0 then (c >>> 1) ^^^ 0x8408#16 else c >>> 1 := rfl

theorem crcInject_eq (c : BitVec 16) (x : Byte) : crcInject c x = c ^^^ x.setWidth 16 := rfl

theorem crc16_eq_foldl (b : List Byte) : crc16 b = b.foldl crcByte 0#16 := BitVec.xor_zero

/-- Only the polynomial reaches the top bit, so it tells whether the polynomial was added. -/
theorem crcBit_top (c : BitVec 16) : (crcBit c).getLsbD 15 = c.getLsbD 0 := by
  rw [crcBit_eq]
  cases h : c.getLsbD 0 <;> simp

theorem eq_of_ushiftRight_one {c d : BitVec 16} (h0 : c.getLsbD 0 = d.getLsbD 0) (h : c >>> 1 = d >>> 1) : c = d := by
  apply BitVec.eq_of_getLsbD_eq
  intro i _
  cases i with
  | zero => exact h0
  | succ i =>
    have hbit := congrArg (BitVec.getLsbD · i) h
    simpa only [BitVec.getLsbD_ushiftRight, Nat.add_comm 1 i] using hbit

theorem crcBit_injective : Function.Injective crcBit := by
  intro c d h
  have h0 : c.getLsbD 0 = d.getLsbD 0 := by rw [← crcBit_top c, ← crcBit_top d, h]
  apply eq_of_ushiftRight_one h0
  rw [crcBit_eq, crcBit_eq, ← h0] at h
  split at h
  · exact (BitVec.xor_left_inj _).1 h
  · exact h

theorem repeat_injective {α : Type} {f : α → α} (hf : Function.Injective f) (n : Nat) :
    Function.Injective (Nat.repeat f n) := by
  induction n with
  | zero => exact Function.injective_id
  | succ n ih => exact hf.comp ih

/-- Different accumulators stay different under the same byte. -/
theorem crcByte_injective_acc (x : Byte) : Function.Injective (crcByte · x) := by
  intro c d h
  have hin := repeat_injective crcBit_injective 8 h
  rw [crcInject_eq, crcInject_eq] at hin
  exact (BitVec.xor_left_inj _).1 hin

/-- Different bytes take one accumulator to different ones. -/
theorem crcByte_injective_byte (c : BitVec 16) : Function.Injective (crcByte c) := by
  intro x y h
  have hin := repeat_injective crcBit_injective 8 h
  rw [crcInject_eq, crcInject_eq] at hin
  have hw : x.setWidth 16 = y.setWidth 16 := (BitVec.xor_right_inj _).1 hin
  have hback := congrArg (BitVec.setWidth 8) hw
  simpa using hback

theorem foldl_crcByte_injective (b : List Byte) : Function.Injective (b.foldl crcByte) := by
  induction b with
  | nil => exact Function.injective_id
  | cons x b ih => exact ih.comp (crcByte_injective_acc x)

/-- One changed byte changes the accumulator, whatever follows. -/
theorem foldl_crcByte_set_ne (b : List Byte) (c : BitVec 16) (k : Nat) (y : Byte) (hk : k < b.length)
    (hy : y ≠ byteAt b k) : (b.set k y).foldl crcByte c ≠ b.foldl crcByte c := by
  induction b generalizing c k with
  | nil => exact absurd hk (Nat.not_lt_zero k)
  | cons x b ih =>
    cases k with
    | zero => exact fun h => hy (crcByte_injective_byte c (foldl_crcByte_injective b h))
    | succ k => exact ih (crcByte c x) k (Nat.lt_of_succ_lt_succ hk) hy

theorem crc16_set_ne (b : List Byte) (k : Nat) (y : Byte) (hk : k < b.length) (hy : y ≠ byteAt b k) :
    crc16 (b.set k y) ≠ crc16 b := by
  rw [crc16_eq_foldl, crc16_eq_foldl]
  exact foldl_crcByte_set_ne b 0#16 k y hk hy

/-! ## The residue of a list with its check sequence (R121) -/

/-- As long as the bits that leave are 0, the polynomial is never added. -/
theorem repeat_crcBit_of_low_zero (c : BitVec 16) (n : Nat) (h : ∀ i < n, c.getLsbD i = false) :
    Nat.repeat crcBit n c = c >>> n := by
  induction n with
  | zero => exact (BitVec.ushiftRight_zero c).symm
  | succ n ih =>
    have hrest : Nat.repeat crcBit n c = c >>> n := ih fun i hi => h i (Nat.lt_succ_of_lt hi)
    have hout : (c >>> n).getLsbD 0 = false := by
      rw [BitVec.getLsbD_ushiftRight]
      exact h n (Nat.lt_succ_self n)
    rw [Nat.repeat, hrest, crcBit_eq, hout, BitVec.shiftRight_add]
    rfl

/-- Adding the low byte of the accumulator to it leaves its high byte, shifted down. -/
theorem crcByte_low_byte (c : BitVec 16) : crcByte c (c.extractLsb' 0 8) = c >>> 8 := by
  have hin : crcInject c (c.extractLsb' 0 8) = c ^^^ (c.extractLsb' 0 8).setWidth 16 := crcInject_eq ..
  have hlow (i : Nat) (hi : i < 8) : (crcInject c (c.extractLsb' 0 8)).getLsbD i = false := by
    simp [hin, hi, Nat.lt_trans hi (show 8 < 16 by decide)]
  have hhigh : ((c.extractLsb' 0 8).setWidth 16) >>> 8 = 0#16 := by
    apply BitVec.eq_of_getLsbD_eq
    intro i _
    simp
  rw [crcByte, repeat_crcBit_of_low_zero _ 8 hlow, hin, BitVec.ushiftRight_xor_distrib, hhigh, BitVec.xor_zero]

theorem crcByte_high_byte (c : BitVec 16) : crcByte (c >>> 8) (c.extractLsb' 8 8) = 0#16 := by
  have hin : crcInject (c >>> 8) (c.extractLsb' 8 8) = 0#16 := by
    have hw : (c.extractLsb' 8 8).setWidth 16 = c >>> 8 := by
      apply BitVec.eq_of_toNat_eq
      have := c.isLt
      simp only [BitVec.toNat_setWidth, BitVec.extractLsb'_toNat, BitVec.toNat_ushiftRight, Nat.shiftRight_eq_div_pow]
      omega
    rw [crcInject_eq, hw, BitVec.xor_self]
  rw [crcByte, hin]
  rfl

theorem crc16_residue (m : List Byte) :
    crc16 (m ++ [(crc16 m).extractLsb' 0 8, (crc16 m).extractLsb' 8 8]) = 0#16 := by
  rw [show m ++ [(crc16 m).extractLsb' 0 8, (crc16 m).extractLsb' 8 8] =
      m ++ [(crc16 m).extractLsb' 0 8] ++ [(crc16 m).extractLsb' 8 8] by simp,
    crc16_snoc, crc16_snoc, crcByte_low_byte, crcByte_high_byte]

/-- Settles O11: the recurrence is `crcByte`; the low byte of the check sequence meets itself in the accumulator, then
the high byte does. -/
theorem crcDefinition : Obligations.CrcDefinition :=
  ⟨rfl, crc16_snoc, by decide, by decide, by decide +kernel, crc16_residue⟩

/-! ## One inverted bit (R142) -/

theorem eight_le_expected (f : Frame) : 8 ≤ expected f := by
  have := six_le_hdrLen f
  unfold expected
  omega

theorem fcsOf_append_bytesLe (m : List Byte) (v : BitVec 16) : fcsOf (m ++ bytesLe v 2) = v := by
  have hp : m.length = (m ++ bytesLe v 2).length - 2 := by simp
  have h := leAt_mid 16 m (bytesLe v 2) [] _ 2 hp (bytesLe_length v 2)
  rw [List.append_nil] at h
  rw [fcsOf, h, ofNat_leNat_bytesLe 16 v 2 (by decide)]

theorem decodeFrame_short {b : List Byte} (h : b.length < 8) : decodeFrame b = .reject .short := if_pos h

theorem decodeFrame_badCrc {b : List Byte} (h8 : 8 ≤ b.length) (h : crc16 (b.take (b.length - 2)) ≠ fcsOf b) :
    decodeFrame b = .reject .badCrc :=
  (if_neg (Nat.not_lt.2 h8)).trans (if_pos h)

theorem xor_twoPow_ne (x : Byte) (j : Nat) (hj : j < 8) : x ^^^ BitVec.twoPow 8 j ≠ x := by
  intro h
  have hbit := congrArg (BitVec.getLsbD · j) h
  simp [hj] at hbit

/-- Settles O12: the check sequence stays, and the changed byte changes the CRC of the bytes before it. -/
theorem bitFlipRejected : Obligations.BitFlipRejected := by
  intro f total b k j hp hb hk hj
  obtain ⟨hexp, rfl⟩ := encodeFrame_cases f total b hb
  have hlen : (coveredBytes f total).length = total - 2 := coveredBytes_length f total hp hexp
  have h8 := eight_le_expected f
  generalize coveredBytes f total = m at hlen
  have hkm : k < m.length := by omega
  have hbyte : byteAt (m ++ fcsBytes m) k = byteAt m k := List.getD_append _ _ _ _ hkm
  have hflip := crc16_set_ne m k _ hkm (xor_twoPow_ne (byteAt m k) j hj)
  rw [hbyte, List.set_append_left _ _ hkm, fcsBytes]
  have hset : (m.set k (byteAt m k ^^^ BitVec.twoPow 8 j)).length = m.length := List.length_set
  refine decodeFrame_badCrc ?_ ?_
  · rw [List.length_append, bytesLe_length, hset]
    omega
  · rwa [fcsOf_append_bytesLe, List.length_append, bytesLe_length, Nat.add_sub_cancel, List.take_left]

/-! ## What `decode` answers (R129, R133): each check, once those before it are passed -/

/-- The source of the frame is the undefined short address, as the last check of `decode` reads it (R129). -/
def SrcUndefined (b : List Byte) : Prop :=
  (decodeFixed b).srcMode = .short ∧
    (decodeAddr (decodeFixed b).srcMode b (srcAddrOffset (decodeFixed b))).extractLsb' 0 16 = Config.shortAddrUndefined

section
variable {b : List Byte} (h8 : 8 ≤ b.length) (hcrc : crc16 (b.take (b.length - 2)) = fcsOf b)
include h8 hcrc

theorem decodeFrame_badType (h : 4 ≤ (decodeFixed b).ftype.toNat) : decodeFrame b = .reject .badType :=
  (if_neg (Nat.not_lt.2 h8)).trans <| (if_neg (not_not.2 hcrc)).trans (if_pos h)

variable (htype : (decodeFixed b).ftype.toNat < 4)
include htype

theorem decodeFrame_pending (h : (decodeFixed b).pending = true) : decodeFrame b = .reject .pending :=
  (if_neg (Nat.not_lt.2 h8)).trans <| (if_neg (not_not.2 hcrc)).trans <| (if_neg (Nat.not_le.2 htype)).trans (if_pos h)

variable (hpending : (decodeFixed b).pending = false)
include hpending

/-- What the addressing modes, the length and the source still decide. -/
theorem decodeFrame_addressing :
    decodeFrame b =
      if (decodeFixed b).dstMode = .reserved ∨ (decodeFixed b).srcMode = .reserved then .reject .badAddrMode
      else if b.length < expected (decodeFixed b) then .reject .length
      else if (decodeFixed b).srcMode = .short ∧
          (decodeAddr (decodeFixed b).srcMode b (srcAddrOffset (decodeFixed b))).extractLsb' 0 16 =
            Config.shortAddrUndefined then .reject .srcUndefined
      else .ok (withPayload (decodeVariable (decodeFixed b) b) b) (b.length - expected (decodeFixed b)) :=
  (if_neg (Nat.not_lt.2 h8)).trans <| (if_neg (not_not.2 hcrc)).trans <| (if_neg (Nat.not_le.2 htype)).trans
    (if_neg (Bool.eq_false_iff.1 hpending))

theorem decodeFrame_badAddrMode (h : (decodeFixed b).dstMode = .reserved ∨ (decodeFixed b).srcMode = .reserved) :
    decodeFrame b = .reject .badAddrMode :=
  (decodeFrame_addressing h8 hcrc htype hpending).trans (if_pos h)

variable (hmodes : ¬ ((decodeFixed b).dstMode = .reserved ∨ (decodeFixed b).srcMode = .reserved))
include hmodes

theorem decodeFrame_length (h : b.length < expected (decodeFixed b)) : decodeFrame b = .reject .length := by
  rw [decodeFrame_addressing h8 hcrc htype hpending, if_neg hmodes, if_pos h]

variable (hexp : expected (decodeFixed b) ≤ b.length)
include hexp

theorem decodeFrame_srcUndefined (h : SrcUndefined b) : decodeFrame b = .reject .srcUndefined := by
  rw [decodeFrame_addressing h8 hcrc htype hpending, if_neg hmodes, if_neg (Nat.not_lt.2 hexp)]
  exact if_pos h

theorem decodeFrame_accepts (h : ¬ SrcUndefined b) :
    decodeFrame b = .ok (withPayload (decodeVariable (decodeFixed b) b) b) (b.length - expected (decodeFixed b)) := by
  rw [decodeFrame_addressing h8 hcrc htype hpending, if_neg hmodes, if_neg (Nat.not_lt.2 hexp)]
  exact if_neg h

end

/-! ## A number read from bytes is the number written there (R86) -/

/-- Two values that hold the same bytes agree in the bits those bytes carry. -/
theorem fieldAt_unique {v w : Nat} {b : List Byte} {p n : Nat} {x : BitVec v} {y : BitVec w} (hx : fieldAt b p n x)
    (hy : fieldAt b p n y) : x.extractLsb' 0 (8 * n) = y.extractLsb' 0 (8 * n) := by
  have hbit {u : Nat} (z : BitVec u) (i : Nat) : z.getLsbD i = (z.extractLsb' (8 * (i / 8)) 8).getLsbD (i % 8) := by
    rw [BitVec.getLsbD_extractLsb', decide_eq_true (Nat.mod_lt i (by decide)), Bool.true_and, Nat.div_add_mod]
  apply BitVec.eq_of_getLsbD_eq
  intro i hi
  have hk : i / 8 < n := by omega
  rw [BitVec.getLsbD_extractLsb', BitVec.getLsbD_extractLsb', Nat.zero_add, hbit x, hbit y, ← hx _ hk, ← hy _ hk]

/-- A value as wide as its bytes is read back from them. -/
theorem leAt_of_fieldAt {b : List Byte} {p n : Nat} {v : BitVec (8 * n)} (h : fieldAt b p n v) :
    leAt (8 * n) b p n = v := by
  rw [← BitVec.extractLsb'_eq_self (x := v), ← fieldAt_unique (fieldAt_leAt (8 * n) b p n (Nat.le_refl _)) h,
    BitVec.extractLsb'_eq_self]

/-- The 16 bits of a short address, read as a number of 64 bits. -/
theorem leAt_short_low (b : List Byte) (p : Nat) : (leAt 64 b p 2).extractLsb' 0 16 = leAt 16 b p 2 :=
  (fieldAt_unique (n := 2) (fieldAt_leAt 64 b p 2 (by decide)) (fieldAt_leAt 16 b p 2 (by decide))).trans
    BitVec.extractLsb'_eq_self

/-! ## The first defect (R133) -/

theorem addrModeBits_eq_iff (a b : AddrMode) : addrModeBits a = addrModeBits b ↔ a = b :=
  ⟨addrModeBits_injective, congrArg addrModeBits⟩

/-- The reserved mode on either side, as the bits of byte 4 (R84). -/
theorem reservedMode_iff (b : List Byte) :
    ((decodeFixed b).dstMode = .reserved ∨ (decodeFixed b).srcMode = .reserved) ↔
      ((byteAt b 4).extractLsb' 2 2 = 1#2 ∨ (byteAt b 4).extractLsb' 6 2 = 1#2) := by
  obtain ⟨-, -, -, -, -, hdst, -, hsrc⟩ := decodeFixed_frameControl b
  rw [← hdst, ← hsrc, ← addrModeBits_eq_iff, ← addrModeBits_eq_iff]
  rfl

/-- The undefined short source address, as the bytes at its offset (R129 step 7). -/
theorem srcUndefined_iff (b : List Byte) :
    SrcUndefined b ↔
      (byteAt b 4).extractLsb' 6 2 = 2#2 ∧ leAt 16 b (srcAddrOffset (decodeFixed b)) 2 = 0xFFFF#16 := by
  obtain ⟨-, -, -, -, -, -, -, hsrc⟩ := decodeFixed_frameControl b
  have hmode : (decodeFixed b).srcMode = .short ↔ (byteAt b 4).extractLsb' 6 2 = 2#2 := by
    rw [← hsrc]
    exact (addrModeBits_eq_iff _ .short).symm
  rw [SrcUndefined, ← hmode]
  refine and_congr_right fun hm => ?_
  rw [hm, ← leAt_short_low]
  rfl

/-- Settles O10: the checks in their order, each as the bits it reads. -/
theorem rejectionOrder : Obligations.RejectionOrder := by
  intro b
  obtain ⟨hftype, -, hpend, -⟩ := decodeFixed_frameControl b
  rw [← hftype, ← hpend]
  refine ⟨decodeFrame_short, fun h8 => ⟨decodeFrame_badCrc h8, fun hcrc => ⟨decodeFrame_badType h8 hcrc, fun htype =>
    ⟨decodeFrame_pending h8 hcrc htype, fun hpending => ⟨fun hres => ?_, fun hdst hsrc => ?_⟩⟩⟩⟩⟩
  · exact decodeFrame_badAddrMode h8 hcrc htype hpending ((reservedMode_iff b).2 hres)
  have hmodes := mt (reservedMode_iff b).1 (not_or.2 ⟨hdst, hsrc⟩)
  refine ⟨decodeFrame_length h8 hcrc htype hpending hmodes, fun hexp => ?_⟩
  exact ⟨fun hshort hundef => decodeFrame_srcUndefined h8 hcrc htype hpending hmodes hexp
      ((srcUndefined_iff b).2 ⟨hshort, hundef⟩),
    fun hdefined => ⟨_, _, decodeFrame_accepts h8 hcrc htype hpending hmodes hexp
      (mt (srcUndefined_iff b).1 (not_and_or.2 hdefined))⟩⟩

/-! ## The fixed fields read back (R83, R84, R85) -/

/-- A record cut down to its fixed fields: what `decode` knows before it reads the addresses (R129 step 3). -/
def fixedFields (f : Frame) : Frame :=
  { f with dstPan := 0#16, srcPan := 0#16, dstAddr := 0#64, srcAddr := 0#64, secHdr := 0#48, payload := [] }

/-- A field of a word, from the word's number. -/
theorem extractLsb'_of_toNat {w n : Nat} {v : BitVec w} {i : Nat} {x : BitVec n}
    (h : v.toNat / 2 ^ i % 2 ^ n = x.toNat) : v.extractLsb' i n = x := by
  apply BitVec.eq_of_toNat_eq
  rw [BitVec.extractLsb'_toNat, Nat.shiftRight_eq_div_pow, h]

/-- A flag of a word, from the word's number. -/
theorem getLsbD_of_toNat {w : Nat} {v : BitVec w} {i : Nat} {x : Bool} (h : v.toNat / 2 ^ i % 2 = x.toNat) :
    v.getLsbD i = x := by
  rw [BitVec.getLsbD, Nat.testBit_eq_decide_div_mod_eq, h]
  cases x <;> rfl

/-- The fields of the segment control image are the record's. -/
theorem scImage_fields (f : Frame) :
    (scImage f).extractLsb' 0 10 = f.segLen ∧ (scImage f).extractLsb' 10 6 = f.segNum ∧
      (scImage f).getLsbD 16 = f.lsf ∧ (scImage f).getLsbD 17 = f.cap ∧ (scImage f).getLsbD 18 = f.tmr := by
  have hsegLen := f.segLen.isLt
  have hsegNum := f.segNum.isLt
  have hlsf := f.lsf.toNat_le
  have hcap := f.cap.toNat_le
  have htmr := f.tmr.toNat_le
  refine ⟨extractLsb'_of_toNat ?_, extractLsb'_of_toNat ?_, getLsbD_of_toNat ?_, getLsbD_of_toNat ?_,
    getLsbD_of_toNat ?_⟩
  all_goals
    rw [scImage_toNat]
    omega

/-- The fields of the frame control image are the record's. -/
theorem fcImage_fields (f : Frame) :
    (fcImage f).extractLsb' 0 3 = f.ftype ∧ (fcImage f).getLsbD 3 = f.sec ∧ (fcImage f).getLsbD 4 = f.pending ∧
      (fcImage f).getLsbD 5 = f.ackReq ∧ (fcImage f).getLsbD 6 = f.panComp ∧
      (fcImage f).extractLsb' 10 2 = addrModeBits f.dstMode ∧ (fcImage f).extractLsb' 12 2 = f.version ∧
      (fcImage f).extractLsb' 14 2 = addrModeBits f.srcMode := by
  have hftype := f.ftype.isLt
  have hsec := f.sec.toNat_le
  have hpending := f.pending.toNat_le
  have hackReq := f.ackReq.toNat_le
  have hpanComp := f.panComp.toNat_le
  have hdstMode := (addrModeBits f.dstMode).isLt
  have hversion := f.version.isLt
  have hsrcMode := (addrModeBits f.srcMode).isLt
  refine ⟨extractLsb'_of_toNat ?_, getLsbD_of_toNat ?_, getLsbD_of_toNat ?_, getLsbD_of_toNat ?_, getLsbD_of_toNat ?_,
    extractLsb'_of_toNat ?_, extractLsb'_of_toNat ?_, extractLsb'_of_toNat ?_⟩
  all_goals
    rw [fcImage_toNat]
    omega

theorem frameOfControl_images (f : Frame) : frameOfControl (scImage f) (fcImage f) f.seq = fixedFields f := by
  obtain ⟨hsegLen, hsegNum, hlsf, hcap, htmr⟩ := scImage_fields f
  obtain ⟨hftype, hsec, hpending, hackReq, hpanComp, hdstMode, hversion, hsrcMode⟩ := fcImage_fields f
  rw [frameOfControl, hsegLen, hsegNum, hlsf, hcap, htmr, hftype, hsec, hpending, hackReq, hpanComp, hdstMode, hversion,
    hsrcMode, addrModeOf_bits, addrModeOf_bits, fixedFields]

/-- The segment control image, put together from the bits of bytes 0 to 2 as `decode` does. -/
theorem scImage_of_bytes {f : Frame} {b : List Byte} (h : headerFixed f <+: b) :
    BitVec.ofBool ((byteAt b 0).getLsbD 3) ++ BitVec.ofBool ((byteAt b 0).getLsbD 1) ++
      BitVec.ofBool ((byteAt b 0).getLsbD 0) ++ byteAt b 1 ++ byteAt b 2 = scImage f := by
  obtain ⟨h0, h1, h2⟩ := segControl_toNat h
  have hsegLen := f.segLen.isLt
  have hlsf := f.lsf.toNat_le
  have hcap := f.cap.toNat_le
  have htmr := f.tmr.toNat_le
  have htmrBit : (byteAt b 0).getLsbD 3 = f.tmr := getLsbD_of_toNat (by omega)
  have hcapBit : (byteAt b 0).getLsbD 1 = f.cap := getLsbD_of_toNat (by omega)
  have hlsfBit : (byteAt b 0).getLsbD 0 = f.lsf := getLsbD_of_toNat (by omega)
  rw [htmrBit, hcapBit, hlsfBit]
  apply BitVec.eq_of_toNat_eq
  simp only [scImage_toNat, toNat_concat, BitVec.toNat_ofBool, h1, h2]
  omega

theorem fcImage_of_bytes {f : Frame} {b : List Byte} (h : headerFixed f <+: b) : leAt 16 b 3 2 = fcImage f := by
  have hbytes : leAt 16 b 3 2 = byteAt b 4 ++ byteAt b 3 := leAt_two b 3
  apply BitVec.eq_of_toNat_eq
  rw [hbytes, toNat_concat, ← frameControl_toNat h]
  omega

theorem decodeFixed_of_headerFixed {f : Frame} {b : List Byte} (h : headerFixed f <+: b) :
    decodeFixed b = fixedFields f := by
  have hseq : byteAt b 5 = f.seq := byteAt_of_headerFixed h (k := 5) (by decide)
  rw [decodeFixed, scImage_of_bytes h, fcImage_of_bytes h, hseq, frameOfControl_images]

/-! ## The round trip (R141) -/

/-- An address field is read back when the record's address is canonical for its mode. -/
theorem decodeAddr_of_fieldAt {m : AddrMode} {a : BitVec 64} {b : List Byte} {p : Nat} (hc : canonicalAddr m a = a)
    (hshort : m = .short → fieldAt b p 2 a) (hext : m = .extended → fieldAt b p 8 a) : decodeAddr m b p = a := by
  cases m with
  | none | reserved => exact hc
  | short =>
    have hlow : (leAt 64 b p 2).extractLsb' 0 16 = a.extractLsb' 0 16 :=
      fieldAt_unique (fieldAt_leAt 64 b p 2 (by decide)) (hshort rfl)
    have hread := canonicalAddr_decodeAddr .short b p
    rw [← hread, ← hc]
    exact congrArg (BitVec.setWidth 64) hlow
  | extended => exact leAt_of_fieldAt (n := 8) (hext rfl)

theorem canonicalDstPan_of_fieldAt {m : AddrMode} {q : BitVec 16} {b : List Byte} {p : Nat}
    (hc : canonicalDstPan m q = q) (hshort : m = .short → fieldAt b p 2 q) (hext : m = .extended → fieldAt b p 2 q) :
    canonicalDstPan m (leAt 16 b p 2) = q := by
  cases m with
  | none | reserved => exact hc
  | short => exact leAt_of_fieldAt (n := 2) (hshort rfl)
  | extended => exact leAt_of_fieldAt (n := 2) (hext rfl)

theorem canonicalSrcPan_of_fieldAt {m : AddrMode} {panComp : Bool} {d q : BitVec 16} {b : List Byte} {p : Nat}
    (hc : canonicalSrcPan m panComp d q = q) (hshort : m = .short → panComp = false → fieldAt b p 2 q)
    (hext : m = .extended → panComp = false → fieldAt b p 2 q) :
    canonicalSrcPan m panComp d (leAt 16 b p 2) = q := by
  cases panComp with
  | true => cases m <;> exact hc
  | false =>
    cases m with
    | none | reserved => exact hc
    | short => exact leAt_of_fieldAt (n := 2) (hshort rfl rfl)
    | extended => exact leAt_of_fieldAt (n := 2) (hext rfl rfl)

/-- What a record with canonical absent fields has in each field that may be absent (R135). -/
theorem canonical_fields {f : Frame} (h : canonical f = f) :
    canonicalDstPan f.dstMode f.dstPan = f.dstPan ∧ canonicalAddr f.dstMode f.dstAddr = f.dstAddr ∧
      canonicalSrcPan f.srcMode f.panComp f.dstPan f.srcPan = f.srcPan ∧
      canonicalAddr f.srcMode f.srcAddr = f.srcAddr ∧ (secCarried f = false → f.secHdr = 0#48) := by
  have hdstPan : canonicalDstPan f.dstMode f.dstPan = f.dstPan := congrArg Frame.dstPan h
  have hsrcPan : canonicalSrcPan f.srcMode f.panComp (canonicalDstPan f.dstMode f.dstPan) f.srcPan = f.srcPan :=
    congrArg Frame.srcPan h
  have hsecHdr : (if secCarried f then f.secHdr else 0#48) = f.secHdr := congrArg Frame.secHdr h
  rw [hdstPan] at hsrcPan
  refine ⟨hdstPan, congrArg Frame.dstAddr h, hsrcPan, congrArg Frame.srcAddr h, fun hs => ?_⟩
  rw [← hsecHdr, hs]
  rfl

/-- Bytes that start with the header and the payload of a record with canonical absent fields decode to it. -/
theorem decodeFields_eq {f : Frame} {b post : List Byte} (hc : canonical f = f) (hp : f.payload.length = f.segLen.toNat)
    (hb : b = headerBytes f ++ (f.payload ++ post)) :
    withPayload (decodeVariable (fixedFields f) b) b = f := by
  obtain ⟨hdstPan, hdstAddr, hsrcPan, hsrcAddr, hsecHdr⟩ := canonical_fields hc
  obtain ⟨hdstShort, hdstExt, hsrcPanShort, hsrcPanExt, hsrcShort, hsrcExt, hsec⟩ :=
    (addressingAt_iff f b).1 (addressingAt_of_headerBytes ⟨_, hb.symm⟩)
  have hdstPanRead : canonicalDstPan f.dstMode (leAt 16 b 6 2) = f.dstPan :=
    canonicalDstPan_of_fieldAt hdstPan (fun hm => (hdstShort hm).1) (fun hm => (hdstExt hm).1)
  have hdstAddrRead : decodeAddr f.dstMode b 8 = f.dstAddr :=
    decodeAddr_of_fieldAt hdstAddr (fun hm => (hdstShort hm).2) (fun hm => (hdstExt hm).2)
  have hsrcPanRead : canonicalSrcPan f.srcMode f.panComp f.dstPan (leAt 16 b (srcOffset f) 2) = f.srcPan :=
    canonicalSrcPan_of_fieldAt hsrcPan hsrcPanShort hsrcPanExt
  have hsrcAddrRead : decodeAddr f.srcMode b (srcAddrOffset f) = f.srcAddr :=
    decodeAddr_of_fieldAt hsrcAddr hsrcShort hsrcExt
  have hsecRead : (if secCarried f then leAt 48 b (secOffset f) 6 else 0#48) = f.secHdr := by
    cases hs : secCarried f with
    | false => exact (hsecHdr hs).symm
    | true =>
      obtain ⟨hsecBit, hsegNum⟩ := Bool.and_eq_true_iff.1 hs
      exact leAt_of_fieldAt (n := 6) (hsec hsecBit (of_decide_eq_true hsegNum))
  have hpayloadRead : (b.drop (hdrLen f)).take f.segLen.toNat = f.payload := by
    rw [hb, List.drop_left' (headerBytes_length f), List.take_left' hp]
  calc
    withPayload (decodeVariable (fixedFields f) b) b =
        { f with
          dstPan := canonicalDstPan f.dstMode (leAt 16 b 6 2)
          dstAddr := decodeAddr f.dstMode b 8
          srcPan :=
            canonicalSrcPan f.srcMode f.panComp (canonicalDstPan f.dstMode (leAt 16 b 6 2)) (leAt 16 b (srcOffset f) 2)
          srcAddr := decodeAddr f.srcMode b (srcAddrOffset f)
          secHdr := if secCarried f then leAt 48 b (secOffset f) 6 else 0#48
          payload := (b.drop (hdrLen f)).take f.segLen.toNat } := rfl
    _ = f := by rw [hdstPanRead, hdstAddrRead, hsrcPanRead, hsrcAddrRead, hsecRead, hpayloadRead]

/-- An encoded frame starts with header and payload (R138). -/
theorem encodeFrame_starts {f : Frame} {total : Nat} {b : List Byte} (hp : f.payload.length = f.segLen.toNat)
    (h : encodeFrame f total = some b) : ∃ post, b = headerBytes f ++ (f.payload ++ post) := by
  obtain ⟨-, hcov⟩ := encodeFrame_cases f total b h
  refine ⟨List.replicate (total - expected f) 0#8 ++ fcsBytes (coveredBytes f total), ?_⟩
  rw [hcov, coveredBytes_eq f total hp, List.append_assoc, List.append_assoc]

/-- An encoded frame passes the check of its check sequence (R123). -/
theorem encodeFrame_crc {f : Frame} {total : Nat} {b : List Byte} (h : encodeFrame f total = some b) :
    crc16 (b.take (b.length - 2)) = fcsOf b := by
  obtain ⟨-, rfl⟩ := encodeFrame_cases f total b h
  rw [fcsOf_append, List.length_append, fcsBytes, bytesLe_length, Nat.add_sub_cancel, List.take_left]

/-- Settles O7: the encoded bytes pass every check of `decode`, and each field is read where it was written. -/
theorem frameRoundTrip : Obligations.FrameRoundTrip := by
  intro f total hwf hexp
  obtain ⟨htype, hpending, hdm, hsm, hsrc, hp, hc⟩ := (Frame.wf_iff f).1 hwf
  obtain ⟨b, hb, hlen⟩ := encodeFrame_length f total hp hexp
  obtain ⟨post, hparts⟩ := encodeFrame_starts hp hb
  have hfixed : decodeFixed b = fixedFields f :=
    decodeFixed_of_headerFixed ((headerFixed_starts f).trans ⟨_, hparts.symm⟩)
  have hrecord : withPayload (decodeVariable (decodeFixed b) b) b = f := by
    rw [hfixed]
    exact decodeFields_eq hc hp hparts
  have h8 : 8 ≤ b.length := hlen ▸ (eight_le_expected f).trans hexp
  have hdefined : ¬ SrcUndefined b := by
    have haddr : decodeAddr (decodeFixed b).srcMode b (srcAddrOffset (decodeFixed b)) = f.srcAddr :=
      congrArg Frame.srcAddr hrecord
    rw [SrcUndefined, haddr, hfixed]
    exact fun ⟨hm, hu⟩ => hsrc hm hu
  refine ⟨b, hb, hlen, ?_⟩
  rw [decodeFrame_accepts h8 (encodeFrame_crc hb) (hfixed ▸ htype) (hfixed ▸ hpending) (hfixed ▸ not_or.2 ⟨hdm, hsm⟩)
    (by rw [hfixed, hlen]; exact hexp) hdefined, hrecord, hlen, hfixed]
  rfl

/-! ## `CRC16` and `HDRLEN` (R122, R126) -/

theorem crc16_tooLong {s : State} {len : BitVec 12} (hidle : s.mac.tx = .none) (hlen : 2048 < len.toNat) :
    exec (.crc16 len) s = .next (s.respond .errParam 0#24) := by
  show execCrc16 len s = _
  rw [execCrc16, unitOp_idle s _ hidle]
  exact congrArg _ (if_pos hlen)

theorem crc16_answers {s : State} {len : BitVec 12} (hidle : s.mac.tx = .none) (hlen : len.toNat ≤ 2048) :
    exec (.crc16 len) s =
      .next (s.respond .ok (BitVec.ofNat 24 (crc16 (Memory.readRun s.rxbuf 0 len.toNat)).toNat)) := by
  show execCrc16 len s = _
  rw [execCrc16, unitOp_idle s _ hidle, BitVec.ofNat_toNat]
  exact congrArg _ (if_neg (Nat.not_lt.2 hlen))

theorem hdrlen_answers {s : State} (hidle : s.mac.tx = .none) :
    exec .hdrlen s = .next (s.respond .ok (BitVec.ofNat 24 (hdrLen s.txfr.toFrame))) := by
  show execHdrlen s = _
  rw [execHdrlen, unitOp_idle s _ hidle]

theorem byteAt_readRun (m : Memory) (a n k : Nat) (hk : k < n) :
    byteAt (Memory.readRun m a n) k = Memory.read m (a + k) := by
  have hlen : k < (Memory.readRun m a n).length := by rwa [Memory.readRun_length]
  rw [byteAt, List.getD_eq_getElem _ _ hlen, Memory.readRun_getElem]

/-- The destination fields, by the bits that name their mode (R84, R89). -/
theorem dstFieldLen_addrModeOf (b : BitVec 2) :
    dstFieldLen (addrModeOf b) = if b = 2#2 then 4 else if b = 3#2 then 10 else 0 := by
  revert b
  decide

/-- The source fields, by the bits that name their mode and the compression flag (R84, R89). -/
theorem srcFieldLen_addrModeOf (b : BitVec 2) (panComp : Bool) :
    srcPanLen (addrModeOf b) panComp + addrLen (addrModeOf b) =
      if b = 2#2 then (if panComp then 2 else 4) else if b = 3#2 then (if panComp then 8 else 10) else 0 := by
  revert b panComp
  decide

theorem hdrLen_toFrame (t : FrameBank) :
    hdrLen t.toFrame =
      6 + (if t.fc.extractLsb' 10 2 = 2#2 then 4 else if t.fc.extractLsb' 10 2 = 3#2 then 10 else 0) +
        (if t.fc.extractLsb' 14 2 = 2#2 then (if t.fc.getLsbD 6 then 2 else 4)
          else if t.fc.extractLsb' 14 2 = 3#2 then (if t.fc.getLsbD 6 then 8 else 10) else 0) +
        (if t.fc.getLsbD 3 = true ∧ t.sc.extractLsb' 10 6 = 0#6 then 6 else 0) := by
  rw [← dstFieldLen_addrModeOf, ← srcFieldLen_addrModeOf, ← Nat.add_assoc]
  exact congrArg (secOffset t.toFrame + ·) (secLen_eq t.toFrame)

/-- Settles O14: both operations answer one number, read from `RXBUF` and from TXFR. -/
theorem crc16AndHdrlen : Obligations.Crc16AndHdrlen := by
  intro s hidle
  refine ⟨fun len hlen => ?_, fun len hlen => ?_, ?_⟩
  · refine ⟨Memory.readRun s.rxbuf 0 len.toNat, Memory.readRun_length _ _ _, fun k hk => ?_, ?_⟩
    · rw [Memory.readRun_length] at hk
      rw [byteAt_readRun _ _ _ _ hk, Nat.zero_add]
    · exact crc16_answers hidle hlen
  · exact crc16_tooLong hidle hlen
  · rw [hdrlen_answers hidle, hdrLen_toFrame]
    rfl

/-! ## `DECODE` (R130, R131, R134) -/

theorem countDecode_reject {s : State} {n : Nat} {code : RejectCode} (h : s.rxDecode n = .reject code) :
    s.countDecode n = { s with cnt := s.cnt.record code } := by
  rw [State.countDecode, h]

theorem countDecode_ok {s : State} {n pad : Nat} {f : Frame} (h : s.rxDecode n = .ok f pad) :
    s.countDecode n = { s with rxfr := RxBank.ofDecode f pad (Memory.readRun s.rxbuf 0 n) } := by
  rw [State.countDecode, h]

section
variable {s : State} {len : BitVec 12} (hidle : s.mac.tx = .none)
include hidle

theorem decode_tooLong (hlen : 2048 < len.toNat) : exec (.decode len) s = .next (s.respond .errParam 0#24) := by
  show execDecode len s = _
  rw [execDecode, unitOp_idle s _ hidle]
  exact congrArg _ (if_pos hlen)

theorem decode_reject (hlen : len.toNat ≤ 2048) {code : RejectCode} (h : s.rxDecode len.toNat = .reject code) :
    exec (.decode len) s =
      .next ({ s with cnt := s.cnt.record code }.respond .ok ((rejectBits code).setWidth 24)) := by
  show execDecode len s = _
  rw [execDecode, unitOp_idle s _ hidle]
  refine congrArg _ ((if_neg (Nat.not_lt.2 hlen)).trans ?_)
  rw [h, countDecode_reject h]

theorem decode_ok (hlen : len.toNat ≤ 2048) {f : Frame} {pad : Nat} (h : s.rxDecode len.toNat = .ok f pad) :
    exec (.decode len) s =
      .next ({ s with rxfr := RxBank.ofDecode f pad (Memory.readRun s.rxbuf 0 len.toNat) }.respond .ok 0#24) := by
  show execDecode len s = _
  rw [execDecode, unitOp_idle s _ hidle]
  refine congrArg _ ((if_neg (Nat.not_lt.2 hlen)).trans ?_)
  rw [h, countDecode_ok h]

end

/-- A value in two registers, the upper part and the low 32 bits (R64). -/
theorem extractLsb'_hi_lo {n : Nat} (v : BitVec (n + 32)) : v.extractLsb' 32 n ++ v.extractLsb' 0 32 = v :=
  BitVec.extractLsb'_append_extractLsb'

/-- The pad length and the payload offset of a frame no longer than `RXBUF` fit their 12 bits. -/
theorem ofDecode_offsets {f : Frame} {pad : Nat} {b : List Byte} (h : decodeFrame b = .ok f pad)
    (hb : b.length ≤ 2048) :
    (RxBank.ofDecode f pad b).padLen.toNat = pad ∧ (RxBank.ofDecode f pad b).payOff.toNat = hdrLen f := by
  obtain ⟨-, -, -, -, -, -, -, -, hpad⟩ := decodeFrame_ok b f pad h
  have hhdr := hdrLen_le f
  rw [RxBank.ofDecode]
  dsimp only
  rw [BitVec.toNat_ofNat, BitVec.toNat_ofNat]
  omega

/-- Settles O15: the registers of an accepted frame are those of `RxBank.ofDecode`, whose lengths fit their 12 bits. -/
theorem decodeOperation : Obligations.DecodeOperation := by
  intro s len hidle
  refine ⟨decode_tooLong hidle, fun hlen => ⟨fun h => ?_, fun code hcode h => ?_, fun f pad h => ?_⟩⟩
  · rw [decode_reject hidle hlen h, record_badCrc]
    rfl
  · rw [decode_reject hidle hlen h, record_other _ _ hcode]
    rfl
  · have hrun : (Memory.readRun s.rxbuf 0 len.toNat).length = len.toNat := Memory.readRun_length _ _ _
    obtain ⟨hpadLen, hpayOff⟩ := ofDecode_offsets h (hrun.trans_le hlen)
    refine ⟨_, decode_ok hidle hlen h, rfl, scImage_toNat f, fcImage_toNat f, rfl, rfl, rfl,
      extractLsb'_hi_lo f.dstAddr, extractLsb'_hi_lo f.srcAddr, extractLsb'_hi_lo f.secHdr, hpadLen, hpayOff, rfl, ?_⟩
    show BitVec.ofNat 12 (Memory.readRun s.rxbuf 0 len.toNat).length = len
    rw [hrun, BitVec.ofNat_toNat, BitVec.setWidth_eq]

/-! ## `RXIND` of a rejected frame (R131, R260) -/

theorem record_lastReject (c : CntBank) (code : RejectCode) : (c.record code).lastReject = code := by
  unfold CntBank.record
  split <;> rfl

theorem rxind_tooLong (s : State) (len : BitVec 12) (ack : Bool) (time : Word) (hlen : 2048 < len.toNat) :
    exec (.rxind len ack time) s = .next (s.respond .errParam 0#24) :=
  if_pos hlen

theorem rxind_reject (s : State) (len : BitVec 12) (ack : Bool) (time : Word) (hlen : len.toNat ≤ 2048)
    {code : RejectCode} (h : s.rxDecode len.toNat = .reject code) :
    exec (.rxind len ack time) s =
      .next (({ s with cnt := s.cnt.record code }.enterOcc .eifs).respond .ok ((rejectBits code).setWidth 24)) := by
  refine (if_neg (Nat.not_lt.2 hlen)).trans ?_
  rw [h, countDecode_reject h]
  rfl

/-- Settles O49: a rejection is recorded, and only the occupancy machine hears of it. -/
theorem rxindRejected : Obligations.RxindRejected := by
  intro s len ack time
  refine ⟨rxind_tooLong s len ack time, fun hlen code h => ?_⟩
  refine ⟨_, rxind_reject s len ack time hlen h, rfl, record_lastReject s.cnt code, fun hcode => ?_, fun hcode => ?_⟩
  · subst hcode
    exact ⟨rfl, rfl⟩
  · show (s.cnt.record code).badCrc = _ ∧ (s.cnt.record code).malformed = _
    rw [record_other _ _ hcode]
    exact ⟨rfl, rfl⟩

end Sys2Proof.Machine

/-! The family of `41_phy_params.md`: the derived registers of the snapshot, `PHYCALC`, and the `START` that loads the
snapshot and announces it. -/

namespace Sys2Proof.Machine

/-! ## The derived registers (R153, R154, R157) -/

theorem bitsPerCarrier_toNat (t : ModType) :
    (bitsPerCarrier t).toNat =
      (if t = .robust ∨ t = .bpsk then 1 else if t = .qpsk then 2 else if t = .psk8 then 3 else 4) := by
  cases t <;> decide

theorem repetition_toNat (t : ModType) : (repetition t).toNat = (if t = .robust then 4 else 1) := by
  cases t <;> decide

theorem parityBytes_toNat (t : ModType) : (parityBytes t).toNat = (if t = .robust then 8 else 16) := by
  cases t <;> decide

/-- `deriveSnapshot()` writes no input of the calculator (R151, R157). -/
@[simp] theorem derive_snapIn (b : SnapBank) : b.derive.snapIn = b.snapIn := rfl

/-- The cap of R157 is the largest value of the 16-bit register, so nothing is cut off. -/
theorem derive_maxPhy_toNat (b : SnapBank) :
    b.derive.maxPhy.toNat = min (Config.maxPhyPayload b.derive.snapIn) 65535 := by
  show (BitVec.ofNat 16 (min (Config.maxPhyPayload b.snapIn) 65535)).toNat = _
  rw [derive_snapIn, BitVec.toNat_ofNat]
  omega

/-! ## Loading the snapshot (R157) -/

theorem modOf_eq_some_iff (b : BitVec 3) (m : ModType) : modOf b = some m ↔ modBits m = b := by
  constructor
  · revert b
    cases m <;> decide
  · rintro rfl
    exact modOf_bits m

theorem loadedSnap_of_modBits (s : State) (m : ModType) (hm : modBits m = s.txd.modTypeBits) :
    s.loadedSnap = some (s.snap.inputsOf s.cfg s.txd m).derive := by
  unfold State.loadedSnap
  rw [(modOf_eq_some_iff _ m).2 hm]

theorem loadedSnap_of_reserved (s : State) (h : 4 < s.txd.modTypeBits.toNat) : s.loadedSnap = none := by
  unfold State.loadedSnap
  rw [(modOf_eq_none_iff _).2 h]

theorem exists_modBits_eq (b : BitVec 3) (h : b.toNat ≤ 4) : ∃ m, modBits m = b := by
  have hsome : modOf b ≠ none := fun hnone => Nat.not_lt.2 h ((modOf_eq_none_iff b).1 hnone)
  obtain ⟨m, hm⟩ := Option.ne_none_iff_exists'.1 hsome
  exact ⟨m, (modOf_eq_some_iff b m).1 hm⟩

/-! ## `PHYCALC` (R158) -/

theorem phycalc_idle (s : State) (load : Bool) (hidle : s.mac.tx = .none) :
    exec (.phycalc load) s = .next (s.phyCalc load) :=
  unitOp_idle s (fun s => s.phyCalc load) hidle

theorem phyCalc_load {s : State} {b : SnapBank} (h : s.loadedSnap = some b) :
    s.phyCalc true = ({ s with snap := b } : State).respond .ok (b.maxPhy.setWidth 24) := by
  unfold State.phyCalc
  rw [if_pos rfl, h]

theorem phyCalc_load_refused {s : State} (h : s.loadedSnap = none) : s.phyCalc true = s.respond .errParam 0#24 := by
  unfold State.phyCalc
  rw [if_pos rfl, h]

/-- `PHYCALC` derives from the inputs in the snapshot, or with `load` from those of the descriptor and the tone mask. -/
theorem phyCalc_derives (s : State) (load : Bool) (hload : load = true → s.txd.modTypeBits.toNat ≤ 4) :
    ∃ b : SnapBank,
      s.phyCalc load = ({ s with snap := b.derive } : State).respond .ok (b.derive.maxPhy.setWidth 24) ∧
        (load = false → b = s.snap) ∧
        (load = true → ∃ m, modBits m = s.txd.modTypeBits ∧ b = s.snap.inputsOf s.cfg s.txd m) := by
  cases load with
  | false => exact ⟨s.snap, rfl, fun _ => rfl, nofun⟩
  | true =>
    obtain ⟨m, hm⟩ := exists_modBits_eq _ (hload rfl)
    exact ⟨_, phyCalc_load (loadedSnap_of_modBits s m hm), nofun, fun _ => ⟨m, hm, rfl⟩⟩

/-- Settles O17: the derived registers are those of `deriveSnapshot()` over the inputs `phyCalc_derives` names. -/
theorem phycalcOperation : Obligations.PhycalcOperation := by
  intro s hidle
  refine ⟨fun load hload => ?_, fun hreserved => ?_⟩
  · obtain ⟨b, hcalc, hkept, hloaded⟩ := phyCalc_derives s load hload
    refine ⟨_, (phycalc_idle s load hidle).trans (congrArg _ hcalc), rfl, rfl, derive_maxPhy_toNat b,
      bitsPerCarrier_toNat b.modType, repetition_toNat b.modType, parityBytes_toNat b.modType, fun hl => ?_,
      fun hl => ?_⟩
    · rw [← hkept hl]
      exact derive_snapIn b
    · obtain ⟨m, hm, rfl⟩ := hloaded hl
      exact ⟨hm, rfl, rfl, rfl, rfl, rfl, rfl, rfl⟩
  · rw [phycalc_idle s true hidle, phyCalc_load_refused (loadedSnap_of_reserved s hreserved)]
    rfl

/-! ## `POLL` in `START` (R230) -/

theorem txTick_start {s : State} (hx : s.mac.tx = .start) : txTick s = tickStart s := by
  unfold txTick
  rw [hx]

theorem tickStart_of_loadedSnap {s : State} {b : SnapBank} (h : s.loadedSnap = some b) :
    tickStart s =
      .next
        (((({ s with snap := b } : State).setRetries s.cfg.maxFrameRetries).emit b.setParams).buildThen
          (fun t => t.setTx .csmaCa)) := by
  unfold tickStart
  rw [h]

/-- The occupancy transition that comes first (R220) touches nothing `START` reads. -/
theorem poll_start_next {s : State} {b : SnapBank} (hx : s.mac.tx = .start) (h : s.loadedSnap = some b) :
    exec .poll s =
      .next
        ((({ s.occTick with
            snap := b
            sess := { s.sess with retriesLeft := s.cfg.maxFrameRetries }
            effects := s.effects ++ [b.setParams] } : State).buildThen (fun t => t.setTx .csmaCa)).pollAnswer) := by
  apply poll_next
  rw [txTick_start (by rwa [occTick_tx])]
  obtain ⟨o, w, ho⟩ := occTick_shape s
  rw [ho]
  exact tickStart_of_loadedSnap h

/-- Settles O37: the loaded snapshot written out, then the two outcomes of building segment 0. -/
theorem pollStart : Obligations.PollStart := by
  intro s m hx hm i v hi hv
  have hpoll : exec .poll s = .next (v.buildThen fun t => t.setTx .csmaCa).pollAnswer := by
    rw [poll_start_next hx (loadedSnap_of_modBits s m hm), hv, hi]
    rfl
  rw [hpoll]
  unfold State.buildThen
  rcases v.nextSeg with _ | w
  · rw [hv]
    rfl
  · rfl

end Sys2Proof.Machine

/-! The family of `42_csma_backoff.md`: the backoff engine and its unit operations, and who moves the contention
window. -/

namespace Sys2Proof.Machine

/-! ## The window under each function of the engine (R180) -/

/-- What one operation makes of the engine's `CW`, `RESET` and `SET` apart: a window left as it is, a drawn backoff, a
failed access where one is scored, `accessOk` where full success is reached (R179, R180). -/
inductive EngineMove (c : CfgBank) (scored success : Prop) (k k' : CsmaBank) : Prop
  | kept (hcw : k'.cw = k.cw)
  | drew (prio bcast : Bool) (rnd : BitVec 16) (hk : k' = k.runBackoff c prio bcast rnd)
  | failed (hscored : scored) (prio : Bool) (hk : k' = k.accessFail c prio)
  | succeeded (hsuccess : success) (hk : k' = k.accessOk c)

theorem EngineMove.inWindow {c : CfgBank} {scored success : Prop} {k k' : CsmaBank}
    (h : EngineMove c scored success k k') (hk : k.InWindow c) : k'.InWindow c := by
  cases h with
  | kept hcw => exact hk.of_cw_eq hcw
  | drew prio bcast rnd hk' => exact hk' ▸ hk.runBackoff prio bcast rnd
  | failed _ prio hk' => exact hk' ▸ hk.accessFail prio
  | succeeded _ hk' => exact hk' ▸ hk.accessOk

/-- A drawn backoff leaves the window or forces it to `maxW`. -/
theorem CsmaBank.InWindow.le_runBackoff {k : CsmaBank} {c : CfgBank} (h : k.InWindow c) (prio bcast : Bool)
    (rnd : BitVec 16) : k.cw.toNat ≤ (k.runBackoff c prio bcast rnd).cw.toNat := by
  rcases runBackoff_cw k c prio bcast rnd with hcw | hcw <;> rw [hcw]
  rw [ofNat_maxW]
  exact h.2

/-- The condition of the fairness branch of a failed access, `NBF` already counted (R177). -/
def FairnessTrigger (c : CfgBank) (nbf : BitVec 8) : Prop :=
  c.fairLimit.toNat < nbf.toNat ∧ c.csmaK ≠ 0#8 ∧ nbf.toNat % c.csmaK.toNat = 0

/-- Doubling never falls below a window that is at most `maxW`. -/
theorem CsmaBank.InWindow.fairness_of_accessFail_lt {k : CsmaBank} {c : CfgBank} (h : k.InWindow c) (prio : Bool)
    (hlt : (k.accessFail c prio).cw.toNat < k.cw.toNat) : FairnessTrigger c (k.accessFail c prio).nbf := by
  obtain ⟨-, hhi⟩ := h
  have hcw : (k.accessFail c prio).cw = windowAfterFail c (k.accessFail c prio).nbf k.cw := rfl
  rw [hcw, windowAfterFail_toNat] at hlt
  split at hlt
  · rename_i hfair
    split at hlt
    · rename_i hevery
      obtain ⟨hk, hmod⟩ := hevery
      exact ⟨hfair, fun h0 => hk (by rw [h0]; rfl), hmod⟩
    · exact absurd hlt (lt_irrefl _)
  · omega

/-- The window decreases on full success or on a fairness trigger alone (R180). -/
theorem EngineMove.of_cw_lt {c : CfgBank} {scored success : Prop} {k k' : CsmaBank}
    (h : EngineMove c scored success k k') (hk : k.InWindow c) (hlt : k'.cw.toNat < k.cw.toNat) :
    success ∨ (scored ∧ FairnessTrigger c k'.nbf) := by
  cases h with
  | kept hcw => exact absurd hlt (by rw [hcw]; exact lt_irrefl _)
  | drew prio bcast rnd hk' => exact absurd hlt (by rw [hk']; exact Nat.not_lt.2 (hk.le_runBackoff prio bcast rnd))
  | failed hscored prio hk' =>
    subst hk'
    exact .inr ⟨hscored, hk.fairness_of_accessFail_lt prio hlt⟩
  | succeeded hsuccess _ => exact .inl hsuccess

/-! ## What keeps the window -/

/-- The window of `t` and its bounds are those of `s`. -/
structure KeepsWindow (s t : State) : Prop where
  cfg : t.cfg = s.cfg
  cw : t.csma.cw = s.csma.cw

theorem KeepsWindow.refl (s : State) : KeepsWindow s s := ⟨rfl, rfl⟩

theorem KeepsWindow.trans {s t u : State} (hst : KeepsWindow s t) (htu : KeepsWindow t u) : KeepsWindow s u :=
  ⟨htu.cfg.trans hst.cfg, htu.cw.trans hst.cw⟩

theorem KeepsWindow.windowInv {s t : State} (h : KeepsWindow s t) (hs : windowInv s) : windowInv t := by
  obtain ⟨hcfg, hcw⟩ := h
  unfold Machine.windowInv
  rwa [hcfg, hcw]

theorem keepsWindow_respond (s : State) (c : RspCode) (r : BitVec 24) : KeepsWindow s (s.respond c r) := ⟨rfl, rfl⟩

theorem keepsWindow_enterOcc (s : State) (o : Occ) : KeepsWindow s (s.enterOcc o) := ⟨rfl, rfl⟩

theorem keepsWindow_emit (s : State) (e : Effect) : KeepsWindow s (s.emit e) := ⟨rfl, rfl⟩

theorem keepsWindow_setTx (s : State) (x : TxSub) : KeepsWindow s (s.setTx x) := ⟨rfl, rfl⟩

theorem keepsWindow_conclude (s : State) (o : TxOutcome) : KeepsWindow s (s.conclude o) := ⟨rfl, rfl⟩

/-- A compensation does not restore the window (R183). -/
theorem keepsWindow_compensate (s : State) : KeepsWindow s s.compensate := ⟨rfl, compensated_cw s.csma _ _⟩

theorem keepsWindow_countDecode (s : State) (n : Nat) : KeepsWindow s (s.countDecode n) := by
  rcases countDecode_cases s n with ⟨code, -, hs⟩ | ⟨f, pad, -, hs⟩ <;> rw [hs]
  · exact ⟨rfl, rfl⟩
  · exact ⟨rfl, rfl⟩

theorem keepsWindow_confirmSuccess (s : State) (time : Word) : KeepsWindow s (s.confirmSuccess time) := by
  unfold State.confirmSuccess
  dsimp only
  split
  · exact ⟨rfl, rfl⟩
  · exact ⟨rfl, rfl⟩

theorem keepsWindow_interrupt (s : State) : KeepsWindow s s.interrupt := by
  unfold State.interrupt
  split
  · exact keepsWindow_setTx s _
  · exact .refl s

theorem keepsWindow_deliver (s : State) (f : Frame) (ack : Bool) (time : Word) :
    KeepsWindow s (s.deliver f ack time) := by
  have hdata : KeepsWindow s (if s.cfg.addressFilter f then s.emit (.dataInd s.rxfr f.payload time) else s) := by
    split
    · exact keepsWindow_emit s _
    · exact .refl s
  unfold State.deliver
  dsimp only
  split
  · exact hdata.trans (keepsWindow_emit _ _)
  · exact hdata

theorem keepsWindow_received (s : State) (r : DecodeResult) (ack : Bool) (time : Word) :
    KeepsWindow s (s.received r ack time) := by
  cases r with
  | reject code => exact (keepsWindow_enterOcc s _).trans (keepsWindow_respond _ _ _)
  | ok f pad =>
    have hdelivered : KeepsWindow s (s.compensate.interrupt.deliver f ack time) :=
      ((keepsWindow_compensate s).trans (keepsWindow_interrupt _)).trans (keepsWindow_deliver _ f ack time)
    exact (hdelivered.trans (keepsWindow_enterOcc _ _)).trans (keepsWindow_respond _ _ _)

theorem keepsWindow_acknowledged (s : State) (d : Delim) (sub : Bool) (fcs : BitVec 16) :
    KeepsWindow s (s.acknowledged d sub fcs) := by
  unfold State.acknowledged
  dsimp only
  split
  · exact (keepsWindow_enterOcc s _).trans (keepsWindow_setTx _ _)
  · exact keepsWindow_enterOcc s _

theorem Built.keepsWindow {s w : State} (h : Built s w) : KeepsWindow s w := by
  obtain ⟨b, -, rfl⟩ := h
  exact ⟨rfl, rfl⟩

/-! ## The transmit machine: the sub-states that leave the window (R179) -/

theorem keepsWindow_applyFallback (s : State) : KeepsWindow s s.applyFallback := by
  rcases applyFallback_shape s with hs | ⟨b, hs⟩ <;> rw [hs]
  · exact .refl s
  · exact ⟨rfl, rfl⟩

theorem keepsWindow_tickStart {s u : State} (h : tickStart s = .next u) : KeepsWindow s u := by
  obtain ⟨b, v, -, hv, hu⟩ := tickStart_cases s u h
  have hsv : KeepsWindow s v := by
    rw [hv]
    exact ⟨rfl, rfl⟩
  rcases hu with rfl | ⟨w, hw, rfl⟩
  · exact hsv.trans (keepsWindow_conclude v _)
  · exact (hsv.trans hw.keepsWindow).trans (keepsWindow_setTx w _)

theorem keepsWindow_tickWaitSend {s u : State} (h : tickWaitSend s = .next u) : KeepsWindow s u := by
  rcases tickWaitSend_cases s u h with ⟨-, rfl⟩ | ⟨time, sense, -, rfl⟩
  · exact .refl u
  · exact ⟨rfl, rfl⟩

theorem keepsWindow_tickFailCsmaCa (s : State) : KeepsWindow s (tickFailCsmaCa s) := by
  unfold tickFailCsmaCa
  split
  · exact keepsWindow_conclude s _
  · split
    · exact keepsWindow_setTx s _
    · exact keepsWindow_setTx s _

theorem keepsWindow_tickWaitAck (s : State) : KeepsWindow s (tickWaitAck s) := by
  unfold tickWaitAck
  split
  · exact keepsWindow_setTx s _
  · exact .refl s

theorem keepsWindow_tickLittleFail (s : State) : KeepsWindow s (tickLittleFail s) := by
  unfold tickLittleFail
  split
  · exact keepsWindow_conclude s _
  · exact ⟨rfl, rfl⟩

theorem keepsWindow_tickBigFail (s : State) : KeepsWindow s (tickBigFail s) := by
  have hmove (w : State) : KeepsWindow w ((w.setImmediate false).setTx .csmaCa) := ⟨rfl, rfl⟩
  rcases tickBigFail_cases s with h | ⟨v, hv, h⟩
  · rw [h]
    exact keepsWindow_conclude s _
  · have hretries : KeepsWindow s (s.setRetries (s.sess.retriesLeft - 1#8)) := ⟨rfl, rfl⟩
    have hsv : KeepsWindow s v := hv ▸ hretries.trans (keepsWindow_applyFallback _)
    rcases h with h | ⟨w, hw, h⟩ <;> rw [h]
    · exact hsv.trans (keepsWindow_conclude v _)
    · exact (hsv.trans hw.keepsWindow).trans (hmove w)

/-- While bytes remain `SEND_OK` goes on with the request, and no access is scored (R252). -/
theorem keepsWindow_tickSendOk {s : State} (hmore : s.segDone.moreRemains = true) : KeepsWindow s (tickSendOk s) := by
  have hnext : KeepsWindow s s.segDone.nextIndex := ⟨rfl, rfl⟩
  have hmove (w : State) : KeepsWindow w ((w.setImmediate true).setTx .waitSend) := ⟨rfl, rfl⟩
  unfold tickSendOk
  dsimp only
  rw [if_pos hmore]
  split
  · exact ⟨rfl, rfl⟩
  · rcases buildThen_cases s.segDone.nextIndex (fun t => (t.setImmediate true).setTx .waitSend) with h | ⟨w, hw, h⟩ <;>
      rw [h]
    · exact hnext.trans (keepsWindow_conclude _ _)
    · exact (hnext.trans hw.keepsWindow).trans (hmove w)

/-! ## The window under an operation -/

/-- The operation scores a failed access: `ACCFAIL`, or a busy confirm of the frame on air (R176, R246). -/
def ScoresFailure (i : Instr) (s : State) : Prop :=
  (∃ prio, i = .accfail prio) ∨
    ∃ st time, i = .txcfm st time ∧ s.mac.tx = .waitConfirm ∧ (st = .busyChannelSense ∨ st = .busyOwnRx)

/-- The operation is full success: `ACCOK`, or the `POLL` of `SEND_OK` with nothing left to send (R178, R252). -/
def FullSuccess (i : Instr) (s t : State) : Prop :=
  i = .accok ∨ (i = .poll ∧ s.mac.tx = .sendOk ∧ s.txd.len.toNat ≤ t.sess.sentOffset.toNat)

/-- The bounds stay, and the engine makes one of its moves. -/
structure MovesWindow (i : Instr) (s t : State) : Prop where
  cfg : t.cfg = s.cfg
  move : EngineMove s.cfg (ScoresFailure i s) (FullSuccess i s t) s.csma t.csma

theorem KeepsWindow.movesWindow {s t : State} (h : KeepsWindow s t) (i : Instr) : MovesWindow i s t :=
  ⟨h.cfg, .kept h.cw⟩

theorem MovesWindow.windowInv {i : Instr} {s t : State} (h : MovesWindow i s t) (hs : windowInv s) : windowInv t := by
  obtain ⟨hcfg, hmove⟩ := h
  rw [windowInv_iff, hcfg]
  exact hmove.inWindow hs

theorem movesWindow_tickSendOk {s : State} (hx : s.mac.tx = .sendOk) : MovesWindow .poll s (tickSendOk s) := by
  by_cases hmore : s.segDone.moreRemains = true
  · exact (keepsWindow_tickSendOk hmore).movesWindow _
  · have hdone : tickSendOk s = s.segDone.accessOk.conclude .success := if_neg hmore
    have hlen : s.txd.len.toNat ≤ s.segDone.sess.sentOffset.toNat := by
      simpa [State.moreRemains] using hmore
    rw [hdone]
    exact ⟨rfl, .succeeded (.inr ⟨rfl, hx, hlen⟩) rfl⟩

theorem movesWindow_txTick {s u : State} (h : txTick s = .next u) : MovesWindow .poll s u := by
  unfold txTick at h
  rcases hx : s.mac.tx <;> rw [hx] at h <;> dsimp only at h
  case start => exact (keepsWindow_tickStart h).movesWindow _
  case waitSend => exact (keepsWindow_tickWaitSend h).movesWindow _
  all_goals obtain rfl := Host.Outcome.next.inj h
  case none | waitConfirm => exact (KeepsWindow.refl s).movesWindow _
  case csmaCa => exact ⟨rfl, .drew s.txd.prio s.txd.isBroadcast s.rnd rfl⟩
  case failCsmaCa => exact (keepsWindow_tickFailCsmaCa s).movesWindow _
  case waitAck => exact (keepsWindow_tickWaitAck s).movesWindow _
  case sendOk => exact movesWindow_tickSendOk hx
  case littleFail => exact (keepsWindow_tickLittleFail s).movesWindow _
  case bigFail => exact (keepsWindow_tickBigFail s).movesWindow _

/-- The occupancy transition writes nothing the engine's moves read. -/
theorem movesWindow_pollAnswer {s u : State} (h : txTick s.occTick = .next u) : MovesWindow .poll s u.pollAnswer := by
  obtain ⟨hcfg, hmove⟩ := movesWindow_txTick h
  obtain ⟨o, w, ho⟩ := occTick_shape s
  rw [ho] at hcfg hmove
  exact ⟨hcfg, hmove⟩

/-- A busy confirm of the frame on air scores the failed access (R246); no other confirm touches the window. -/
theorem movesWindow_txConfirmed (s : State) (st : PhyStatus) (time : Word) :
    MovesWindow (.txcfm st time) s (s.txConfirmed st time) := by
  have hclear : KeepsWindow s s.clearComp := ⟨rfl, rfl⟩
  have hrefused (o : TxOutcome) : KeepsWindow s ((s.clearComp.conclude o).enterOcc .eifs) := ⟨rfl, rfl⟩
  unfold State.txConfirmed
  split
  · exact (keepsWindow_enterOcc s _).movesWindow _
  · rename_i hx
    rw [not_not] at hx
    cases st with
    | success => exact (hclear.trans (keepsWindow_confirmSuccess _ time)).movesWindow _
    | busyChannelSense => exact ⟨rfl, .failed (.inr ⟨_, _, rfl, hx, .inl rfl⟩) s.txd.prio rfl⟩
    | busyOwnRx => exact ⟨rfl, .failed (.inr ⟨_, _, rfl, hx, .inr rfl⟩) s.txd.prio rfl⟩
    | busyOwnTx | unknown => exact (hrefused _).movesWindow _

theorem Does.movesWindow {i : Instr} {s t : State} (h : Does i s t) (hreset : ∀ clr, i ≠ .reset clr)
    (hset : ∀ n v, i ≠ .set n v) : MovesWindow i s t := by
  cases i with
  | reset clr => exact absurd rfl (hreset clr)
  | set n v => exact absurd rfl (hset n v)
  | poll =>
    obtain ⟨u, hu, rfl⟩ := h
    exact movesWindow_pollAnswer hu
  | txcfm st time =>
    obtain rfl := h
    obtain ⟨hcfg, hmove⟩ := movesWindow_txConfirmed s st time
    exact ⟨hcfg, hmove⟩
  | backoff prio bcast =>
    obtain ⟨-, r, rfl⟩ := h
    exact ⟨rfl, .drew prio bcast s.rnd rfl⟩
  | accfail prio =>
    obtain ⟨-, r, rfl⟩ := h
    exact ⟨rfl, .failed (.inl ⟨prio, rfl⟩) prio rfl⟩
  | accok =>
    obtain ⟨-, r, rfl⟩ := h
    exact ⟨rfl, .succeeded (.inl rfl) rfl⟩
  | compensate =>
    obtain ⟨-, r, rfl⟩ := h
    exact ((keepsWindow_compensate s).trans (keepsWindow_respond _ _ _)).movesWindow _
  | rxind len ack time =>
    obtain rfl := h
    exact ((keepsWindow_countDecode s _).trans (keepsWindow_received _ _ ack time)).movesWindow _
  | ackind d sub fcs =>
    obtain rfl := h
    exact ((keepsWindow_acknowledged s d sub fcs).trans (keepsWindow_respond _ _ _)).movesWindow _
  | decode len =>
    obtain ⟨-, r, rfl⟩ := h
    exact ((keepsWindow_countDecode s _).trans (keepsWindow_respond _ _ _)).movesWindow _
  | nextseg seg off =>
    obtain ⟨-, w, hw, rfl⟩ := h
    have hseek : KeepsWindow s (s.seek seg off) := ⟨rfl, rfl⟩
    exact ((hseek.trans hw.keepsWindow).trans (keepsWindow_respond _ _ _)).movesWindow _
  | get => obtain rfl := h; exact ⟨rfl, .kept rfl⟩
  | txreq => obtain ⟨-, -, rfl⟩ := h; exact ⟨rfl, .kept rfl⟩
  | encode => obtain ⟨-, b, r, -, rfl⟩ := h; exact ⟨rfl, .kept rfl⟩
  | phycalc | fallback => obtain ⟨-, b, r, rfl⟩ := h; exact ⟨rfl, .kept rfl⟩
  | crc16 | hdrlen | segdone => obtain ⟨-, r, rfl⟩ := h; exact ⟨rfl, .kept rfl⟩

theorem exec_movesWindow {i : Instr} {s t : State} (h : exec i s = .next t) (hreset : ∀ clr, i ≠ .reset clr)
    (hset : ∀ n v, i ≠ .set n v) : MovesWindow i s t := by
  rcases exec_cases i s t h with ⟨c, -, rfl⟩ | hd
  · exact (keepsWindow_respond s c _).movesWindow i
  · exact hd.movesWindow hreset hset

/-! ## The window invariant (R180) -/

theorem windowInv_reset : windowInv State.reset := inWindow_of_cw_eq_minW rfl (by decide)

theorem windowInv_cleared {s : State} (h : windowInv s) (clr : Bool) : windowInv (s.cleared clr) :=
  inWindow_of_cw_eq_minW rfl (resetCfg_minW_le_maxW (CsmaBank.InWindow.minW_le_maxW h) clr)

/-- Of the writable registers those of the configuration alone reach the window or its bounds. -/
theorem windowInv_writeReg {s : State} (h : windowInv s) (r : Reg) (v : Word) (hok : setRefused s.cfg r v = false) :
    windowInv (s.writeReg r v) := by
  cases r with
  | cfg r => exact inWindow_afterCfgSet h r v hok
  | txd | txfr | status | cnt | snap | rxfr | rx => exact h

theorem windowInv_exec {i : Instr} {s t : State} (hs : windowInv s) (h : exec i s = .next t) : windowInv t := by
  rcases exec_cases i s t h with ⟨c, -, rfl⟩ | hd
  · exact (keepsWindow_respond s c _).windowInv hs
  · cases i with
    | reset clr =>
      obtain rfl := hd
      exact (keepsWindow_respond _ _ _).windowInv (windowInv_cleared hs clr)
    | set n v =>
      obtain ⟨-, r, -, -, hok, rfl⟩ := hd
      exact (keepsWindow_respond _ _ _).windowInv (windowInv_writeReg hs r v hok)
    | _ => exact (hd.movesWindow nofun nofun).windowInv hs

theorem windowInv_step {s t : State} (hs : windowInv s) (h : step s = .next t) : windowInv t := by
  rcases step_cases s t h with
    ⟨-, rfl⟩ | ⟨off, b, rest, -, rfl⟩ | ⟨off, b, rest, -, rfl⟩ | ⟨now, rnd, c, rest, -, ⟨-, rfl⟩ | ⟨i, -, hi⟩⟩
  · exact hs
  · exact hs
  · exact hs
  · exact hs
  · exact windowInv_exec (s := (s.takeTurn rest).sample now rnd) hs hi

/-- Settles O23: `RESET` and `SET` apart an operation makes one of the engine's four moves; each stays between the
bounds, and only `accessOk` and the fairness branch of `accessFail` go down. -/
theorem windowLaw : Obligations.WindowLaw := by
  refine ⟨windowInv_reset, fun s t => windowInv_step, fun i s t hs h hlt => ?_⟩
  by_cases hreset : ∃ clr, i = .reset clr
  · exact .inl hreset
  by_cases hset : ∃ n v, i = .set n v
  · exact .inr (.inl hset)
  have hmoves : MovesWindow i s t :=
    exec_movesWindow h (not_exists.1 hreset) fun n v hi => hset ⟨n, v, hi⟩
  rcases hmoves.move.of_cw_lt hs hlt with hsuccess | hfair
  · rcases hsuccess with haccok | hpoll
    · exact .inr (.inr (.inl haccok))
    · exact .inr (.inr (.inr (.inl hpoll)))
  · exact .inr (.inr (.inr (.inr hfair)))

/-! ## `BACKOFF` (R172 to R175) -/

theorem updateStreak_minCwStreak_toNat (k : CsmaBank) (c : CfgBank) :
    (k.updateStreak c).minCwStreak.toNat =
      (if k.cw.toNat = c.minW then min (k.minCwStreak.toNat + 1) 255 else 0) := by
  show (if k.cw.toNat = c.minW then sat8Inc k.minCwStreak else 0#8).toNat = _
  split
  · exact sat8Inc_toNat _
  · rfl

/-- The streak as updated decides whether the window is forced to its maximum. -/
theorem updateStreak_cw_toNat (k : CsmaBank) (c : CfgBank) :
    (k.updateStreak c).cw.toNat =
      (if c.minCwAttempts.toNat < (k.updateStreak c).minCwStreak.toNat then c.maxW else k.cw.toNat) := by
  have hcw : (k.updateStreak c).cw =
      (if c.minCwAttempts.toNat < (k.updateStreak c).minCwStreak.toNat then BitVec.ofNat 16 c.maxW else k.cw) := rfl
  rw [hcw]
  split
  · exact ofNat_maxW c
  · rfl

theorem uniform_of_pos (rnd : BitVec 16) {w : Nat} (hw : 0 < w) : uniform rnd w = rnd.toNat % w :=
  if_neg hw.ne'

theorem uniform_toNat (rnd w : BitVec 16) :
    uniform rnd w.toNat = (if w = 0#16 then 0 else rnd.toNat % w.toNat) := by
  have hzero : w.toNat = 0 ↔ w = 0#16 := (BitVec.toNat_eq (x := w) (y := 0#16)).symm
  simp only [uniform, hzero]

theorem CsmaBank.InWindow.cw_pos {k : CsmaBank} {c : CfgBank} (h : k.InWindow c) : 0 < k.cw.toNat :=
  (minW_pos c).trans_le h.1

/-- A window between its bounds is never 0, nor is `maxW`: a normal-priority draw is a residue (R171, R174, R175). -/
theorem CsmaBank.InWindow.uniform_drawWindow {k : CsmaBank} {c : CfgBank} (h : k.InWindow c) (bcast : Bool)
    (rnd : BitVec 16) :
    uniform rnd (k.drawWindow c bcast) =
      rnd.toNat % (if bcast = true ∧ c.bcastMaxCw = true then c.maxW else k.cw.toNat) := by
  have hwin : k.drawWindow c bcast = (if bcast = true ∧ c.bcastMaxCw = true then c.maxW else k.cw.toNat) := by
    simp only [CsmaBank.drawWindow, Bool.and_eq_true]
  have hpos : 0 < (if bcast = true ∧ c.bcastMaxCw = true then c.maxW else k.cw.toNat) := by
    split
    · exact maxW_pos c
    · exact h.cw_pos
  rw [hwin, uniform_of_pos rnd hpos]

theorem CsmaBank.InWindow.updateStreak {k : CsmaBank} {c : CfgBank} (h : k.InWindow c) :
    (k.updateStreak c).InWindow c :=
  (h.runBackoff false false 0#16).of_cw_eq rfl

theorem backoff_idle (s : State) (prio bcast : Bool) (hidle : s.mac.tx = .none) :
    exec (.backoff prio bcast) s =
      .next (({ s with csma := s.csma.runBackoff s.cfg prio bcast s.rnd } : State).respond .ok
        (BitVec.ofNat 24 (s.csma.backoffSlots s.cfg prio bcast s.rnd))) := by
  rw [exec, execBackoff, unitOp_idle s _ hidle]

/-- Settles O19: high priority draws from the bank as it is, normal priority from the bank with the streak updated,
whose window is between its bounds and so not 0. -/
theorem backoffOperation : Obligations.BackoffOperation := by
  intro s prio bcast hidle hwindow
  have hk : s.csma.InWindow s.cfg := hwindow
  cases prio with
  | true =>
    exact ⟨_, _, backoff_idle s true bcast hidle, rfl, rfl, rfl, rfl, BitVec.toNat_ofNat _ _,
      fun _ => ⟨uniform_toNat s.rnd s.cfg.hpWindow, rfl, rfl, rfl⟩, nofun⟩
  | false =>
    exact ⟨_, _, backoff_idle s false bcast hidle, rfl, rfl, rfl, rfl, BitVec.toNat_ofNat _ _, nofun,
      fun _ => ⟨updateStreak_minCwStreak_toNat s.csma s.cfg, updateStreak_cw_toNat s.csma s.cfg,
        hk.updateStreak.uniform_drawWindow bcast s.rnd, BitVec.toNat_ofNat _ _⟩⟩

/-! ## `ACCFAIL` (R176, R177) -/

theorem accfail_idle (s : State) (prio : Bool) (hidle : s.mac.tx = .none) :
    exec (.accfail prio) s =
      .next (({ s with csma := s.csma.accessFail s.cfg prio } : State).respond .ok
        (if (s.csma.accessFail s.cfg prio).exhausted s.cfg then 1#24 else 0#24)) := by
  rw [exec, execAccfail, unitOp_idle s _ hidle]

theorem accessFail_nbf_toNat (k : CsmaBank) (c : CfgBank) (prio : Bool) :
    (k.accessFail c prio).nbf.toNat = (if prio then k.nbf.toNat else min (k.nbf.toNat + 1) 255) := by
  cases prio with
  | true => rfl
  | false => exact sat8Inc_toNat k.nbf

theorem accessFail_cw_toNat (k : CsmaBank) (c : CfgBank) (prio : Bool) :
    (k.accessFail c prio).cw.toNat =
      (if c.fairLimit.toNat < (k.accessFail c prio).nbf.toNat then
        (if c.csmaK ≠ 0#8 ∧ (k.accessFail c prio).nbf.toNat % c.csmaK.toNat = 0 then
          max (k.cw.toNat - c.csmaA.toNat * c.minW) c.minW
        else k.cw.toNat)
      else min (2 * k.cw.toNat) c.maxW) := by
  have hcw : (k.accessFail c prio).cw = windowAfterFail c (k.accessFail c prio).nbf k.cw := rfl
  have hzero : c.csmaK = 0#8 ↔ c.csmaK.toNat = 0 := BitVec.toNat_eq
  rw [hcw, windowAfterFail_toNat]
  simp only [ne_eq, hzero]

/-- Settles O20: the abort condition is read off the counted `NB`, the branch of the window off the counted `NBF`. -/
theorem accfailOperation : Obligations.AccfailOperation := by
  intro s prio hidle _
  have hresult : (if (s.csma.accessFail s.cfg prio).exhausted s.cfg then 1#24 else 0#24) =
      (if s.cfg.maxCsmaBackoffs.toNat ≤ (s.csma.accessFail s.cfg prio).nb.toNat then 1#24 else 0#24) := by
    simp only [CsmaBank.exhausted, decide_eq_true_eq]
  refine ⟨_, accfail_idle s prio hidle, rfl, ?_, sat8Inc_toNat s.csma.nb, accessFail_nbf_toNat s.csma s.cfg prio,
    accessFail_cw_toNat s.csma s.cfg prio⟩
  rw [hresult]
  rfl

/-! ## `ACCOK` (R178) -/

theorem accok_idle (s : State) (hidle : s.mac.tx = .none) :
    exec .accok s = .next (s.accessOk.respond .ok (s.accessOk.csma.cw.setWidth 24)) := by
  rw [exec, execAccok, unitOp_idle s _ hidle]
  rfl

/-- Settles O21: the new window is one shrink step of the old, which does not wrap. -/
theorem accokOperation : Obligations.AccokOperation := by
  intro s hidle
  exact ⟨_, accok_idle s hidle, rfl, shrink_toNat s.cfg s.csma.cw⟩

/-! ## `COMPENSATE` (R183, R184) -/

theorem compensate_idle (s : State) (hidle : s.mac.tx = .none) :
    exec .compensate s = .next (s.compensate.respond .ok (if s.mac.compPending then 1#24 else 0#24)) := by
  rw [exec, execCompensate, unitOp_idle s _ hidle]

/-- A compensation writes the two counters alone (R183). -/
theorem compensated_shape (k : CsmaBank) (pending nbf : Bool) :
    k.compensated pending nbf =
      { k with nb := (k.compensated pending nbf).nb, nbf := (k.compensated pending nbf).nbf } := by
  cases pending with
  | true => rfl
  | false => rfl

theorem compensated_nb_toNat (k : CsmaBank) (pending nbf : Bool) :
    (k.compensated pending nbf).nb.toNat = k.nb.toNat - pending.toNat := by
  cases pending with
  | true => exact decIfPositive_toNat k.nb
  | false => rfl

theorem compensated_nbf_toNat (k : CsmaBank) (pending nbf : Bool) :
    (k.compensated pending nbf).nbf.toNat = k.nbf.toNat - (pending && nbf).toNat := by
  cases pending with
  | false => rfl
  | true =>
    cases nbf with
    | true => exact decIfPositive_toNat k.nbf
    | false => rfl

/-- Settles O22: the mark decides whether the counters go down, and `compensated` writes no other register. -/
theorem compensateOperation : Obligations.CompensateOperation := by
  intro s hidle
  have hbank := compensated_shape s.csma s.mac.compPending s.mac.compNbf
  have hresult : (if s.mac.compPending then 1#24 else 0#24) = BitVec.ofNat 24 s.mac.compPending.toNat := by
    cases s.mac.compPending with
    | true => rfl
    | false => rfl
  refine ⟨_, compensate_idle s hidle, ?_, compensated_nb_toNat s.csma _ _, compensated_nbf_toNat s.csma _ _⟩
  rw [hresult]
  exact congrArg (fun k : CsmaBank => ({ s with csma := k } : State).clearComp.respond .ok _) hbank

end Sys2Proof.Machine

/-! The family of `43_segmentation.md`: `NEXTSEG` and the segment it builds, `SEGDONE`, the `POLL` that follows a sent
segment, and the iteration that sends a whole payload. -/

namespace Sys2Proof.Machine

/-! ## `NEXTSEG` (R191, R194 to R196) -/

theorem nextseg_idle (s : State) (seg : BitVec 6) (off : BitVec 16) (hidle : s.mac.tx = .none) :
    exec (.nextseg seg off) s = .next (s.nextSegUnitWith Config.rsPad seg off) :=
  unitOp_idle s (fun s => s.nextSegUnitWith Config.rsPad seg off) hidle

/-- The three grounds of a `SegFault` (R195). -/
theorem segFault_eq_true (s : State) (rsPad : SnapIn → Nat → Nat) :
    s.segFault rsPad = true ↔
      s.txd.len.toNat < s.sess.sentOffset.toNat ∨ s.snap.maxPhy.toNat ≤ overhead s.segHeader ∨
        2048 < s.nextSegTotal rsPad := by
  rw [← Bool.not_eq_false, segFault_eq_false]
  omega

section

variable (s : State) (rsPad : SnapIn → Nat → Nat) (seg : BitVec 6) (off : BitVec 16)

theorem nextSegUnitWith_reserved (h : s.txd.modeReserved = true) :
    s.nextSegUnitWith rsPad seg off = s.respond .errParam 0#24 := by
  rw [State.nextSegUnitWith, if_pos h]

theorem nextSegUnitWith_segFault (h : (s.seek seg off).segFault rsPad = true) :
    s.nextSegUnitWith rsPad seg off = s.respond .errParam 0#24 := by
  rw [State.nextSegUnitWith, nextSegWith_segFault _ _ h]
  exact ite_self _

theorem nextSegUnitWith_built (hmode : s.txd.modeReserved = false) {t : State}
    (h : (s.seek seg off).nextSegWith rsPad = some t) :
    s.nextSegUnitWith rsPad seg off = t.respond .ok t.segResult := by
  rw [State.nextSegUnitWith, if_neg (Bool.not_eq_true _ ▸ hmode), h]

end

/-! ## The registers after a built segment, as numbers -/

section

variable (s : State) (b : List Byte)

theorem withSegment_segLen_toNat : (s.withSegment b).sess.segLen.toNat = s.nextSegLen := nextSegFrame_segLen s

theorem withSegment_maxSegPayload_toNat : (s.withSegment b).sess.maxSegPayload.toNat = s.maxSeg := by
  have hmax := maxSeg_le s
  rw [State.withSegment_sess, BitVec.toNat_ofNat]
  omega

theorem withSegment_txLen_toNat (hb : b.length ≤ 2048) : (s.withSegment b).sess.txLen.toNat = b.length := by
  rw [State.withSegment_sess, BitVec.toNat_ofNat]
  omega

/-- `MORE_FRAG` of a built segment: it does not exhaust what remains (R193). -/
theorem withSegment_moreFrag : (s.withSegment b).mac.moreFrag = decide (s.nextSegLen ≠ s.remaining) :=
  decide_not.symm

/-- The result of `NEXTSEG`: the last-segment flag stands above the 10 bits of the length, at 1024 (R196). -/
theorem withSegment_segResult :
    (s.withSegment b).segResult =
      BitVec.ofNat 24 (s.nextSegLen + (if s.nextSegLen = s.remaining then 1024 else 0)) := by
  have hlen := nextSegLen_le s
  apply BitVec.eq_of_toNat_eq
  rw [State.segResult, toNat_concat, toNat_concat, withSegment_segLen_toNat, withSegment_moreFrag, BitVec.toNat_ofNat]
  by_cases hlast : s.nextSegLen = s.remaining
  · simp [hlast] at hlen ⊢
    omega
  · simp [hlast]
    omega

end

/-- Settles O24: the quantities of the statement are those of the model at the position `NEXTSEG` sets, and without a
`SegFault` there the result is one stored segment. -/
theorem nextsegBuilds : Obligations.NextsegBuilds := by
  intro s seg off rsPad hidle hmode u hu ovh maxSeg segLen total hovh hmaxSeg hsegLen htotal hoff hroom hfits
  obtain rfl : u = s.seek seg off := hu
  subst hovh
  obtain rfl : maxSeg = (s.seek seg off).maxSeg := hmaxSeg
  obtain rfl : segLen = (s.seek seg off).nextSegLen := hsegLen
  obtain rfl : total = (s.seek seg off).nextSegTotal rsPad := htotal.trans (nextSegTotal_eq _ rsPad).symm
  obtain ⟨b, hencode, hlength, hbuilt⟩ :=
    nextSegWith_built (s.seek seg off) rsPad ((segFault_eq_false _ _).2 ⟨hoff, hroom, hfits⟩)
  have hunit := nextSegUnitWith_built s rsPad seg off hmode hbuilt
  have hmore : decide ((s.seek seg off).nextSegLen ≠ s.txd.len.toNat - off.toNat) = !(s.seek seg off).nextSegLast :=
    decide_not
  refine ⟨nextseg_idle s seg off hidle, b, _, hencode, hlength, hunit, fun hpad => ?_, ?_,
    withSegment_segLen_toNat _ b, withSegment_maxSegPayload_toNat _ b, ?_, txbufHolds_storeFrame s b⟩
  · rw [nextseg_idle s seg off hidle, ← hpad, hunit]
  · rw [withSegment_segResult, hmore]
    rfl
  · rw [← hlength]
    exact withSegment_txLen_toNat _ b (hlength ▸ hfits)

/-- Settles O26: the unit checks the reserved modes, the last three grounds are those of a `SegFault` at the position it
sets, and either way the answer is made from the state before. -/
theorem nextsegRefuses : Obligations.NextsegRefuses := by
  intro s seg off rsPad hidle u hu hground
  obtain rfl : u = s.seek seg off := hu
  have hunit : s.nextSegUnitWith rsPad seg off = s.respond .errParam 0#24 := by
    rcases hground with hmode | hfault
    · exact nextSegUnitWith_reserved s rsPad seg off hmode
    · apply nextSegUnitWith_segFault
      rw [segFault_eq_true, nextSegTotal_eq]
      exact hfault
  refine ⟨hunit, fun hpad => ?_⟩
  rw [nextseg_idle s seg off hidle, ← hpad, hunit]
  rfl

/-! ## The header of a segment (R135, R192, R193) -/

theorem modeReserved_eq_false (t : TxdBank) :
    t.modeReserved = false ↔ t.dstMode ≠ .reserved ∧ t.srcMode ≠ .reserved := by
  simp [TxdBank.modeReserved]

section

variable {m : AddrMode} (hm : m ≠ .reserved)
include hm

theorem canonicalAddr_eq (a : BitVec 64) :
    canonicalAddr m a = (if m = .none then 0#64 else if m = .short then 0#48 ++ a.extractLsb' 0 16 else a) := by
  cases m with
  | reserved => exact absurd rfl hm
  | short => exact BitVec.setWidth_eq_append (by omega)
  | none | extended => rfl

theorem canonicalDstPan_eq (p : BitVec 16) : canonicalDstPan m p = (if m = .none then 0#16 else p) := by
  cases m with
  | reserved => exact absurd rfl hm
  | none | short | extended => rfl

theorem canonicalSrcPan_eq (panComp : Bool) (d p : BitVec 16) :
    canonicalSrcPan m panComp d p = (if m = .none then 0#16 else if panComp then d else p) := by
  cases m with
  | reserved => exact absurd rfl hm
  | none | short | extended => rfl

end

theorem nextSegFrame_dstAddr (s : State) (hdst : s.txd.dstMode ≠ .reserved) :
    s.nextSegFrame.dstAddr =
      (if s.txd.dstMode = .none then 0#64
        else if s.txd.dstMode = .short then 0#48 ++ s.txd.dstLo.extractLsb' 0 16
        else s.txd.dstHi ++ s.txd.dstLo) := by
  have haddr := canonicalAddr_eq hdst s.txd.dstAddr
  rw [TxdBank.dstAddr, BitVec.extractLsb'_append_eq_of_add_le (by omega)] at haddr
  exact haddr

/-- The header holds `SHORT_ADDR` or the extended address by the mode, and the canonical short address is the first. -/
theorem nextSegFrame_srcAddr (s : State) (hsrc : s.txd.srcMode ≠ .reserved) :
    s.nextSegFrame.srcAddr =
      (if s.txd.srcMode = .none then 0#64
        else if s.txd.srcMode = .short then 0#48 ++ s.cfg.shortAddr
        else s.cfg.extAddrHi ++ s.cfg.extAddrLo) := by
  show canonicalAddr s.txd.srcMode (if s.txd.srcMode = .short then s.cfg.shortAddr.setWidth 64 else s.cfg.extAddr) = _
  generalize s.txd.srcMode = m at hsrc
  cases m with
  | reserved => exact absurd rfl hsrc
  | none | extended => rfl
  | short =>
    show ((s.cfg.shortAddr.setWidth 64).extractLsb' 0 16).setWidth 64 = 0#48 ++ s.cfg.shortAddr
    rw [BitVec.extractLsb'_setWidth_of_le (by omega), BitVec.extractLsb'_eq_self]
    exact BitVec.setWidth_eq_append (by omega)

/-- The security header stands in segment 0 alone (R192). -/
theorem nextSegFrame_secHdr (s : State) :
    s.nextSegFrame.secHdr =
      (if s.txd.ctrl.getLsbD 4 = true ∧ s.sess.segIndex = 0#6 then s.txd.secHi ++ s.txd.secLo else 0#48) := by
  have hcarried : secCarried s.segHeader = true ↔ s.txd.ctrl.getLsbD 4 = true ∧ s.sess.segIndex = 0#6 := by
    rw [secCarried, Bool.and_eq_true, decide_eq_true_eq]
    exact Iff.rfl
  exact if_congr hcarried rfl rfl

/-- Settles O25: the fields that are never absent are copied by definition; the others have their canonical values, read
for a mode that is not the reserved one. -/
theorem segmentHeader : Obligations.SegmentHeader := by
  intro s hmode
  obtain ⟨hdst, hsrc⟩ := (modeReserved_eq_false s.txd).1 hmode
  exact ⟨rfl, nextSegFrame_segLen s, rfl, rfl, rfl, rfl, rfl, rfl, rfl, rfl, addrModeBits_of _, addrModeBits_of _,
    rfl, rfl, canonicalDstPan_eq hdst _, nextSegFrame_dstAddr s hdst, canonicalSrcPan_eq hsrc _ _ _,
    nextSegFrame_srcAddr s hsrc, nextSegFrame_secHdr s, Memory.readRun_length _ _ _,
    fun k hk => byteAt_readRun _ _ _ k hk⟩

/-! ## `SEGDONE` (R198) -/

theorem segdone_idle (s : State) (hidle : s.mac.tx = .none) :
    exec .segdone s = .next (s.segDone.respond .ok (if s.segDone.moreRemains then 1#24 else 0#24)) :=
  unitOp_idle s (fun s => s.segDone.respond .ok (if s.segDone.moreRemains then 1#24 else 0#24)) hidle

theorem segDone_sentOffset_toNat (s : State) :
    s.segDone.sess.sentOffset.toNat = (s.sess.sentOffset.toNat + s.sess.segLen.toNat) % 2 ^ 16 := by
  have hlen := s.sess.segLen.isLt
  rw [State.segDone_sess, BitVec.toNat_add, BitVec.toNat_setWidth]
  omega

theorem moreRemains_eq_true (s : State) : s.moreRemains = true ↔ s.sess.sentOffset.toNat < s.txd.len.toNat :=
  decide_eq_true_iff

/-- Settles O27: with no request active the unit is `segDone`, answered with `moreRemains`. -/
theorem segdoneOperation : Obligations.SegdoneOperation := by
  intro s hidle
  refine ⟨_, segdone_idle s hidle, ?_, segDone_sentOffset_toNat s⟩
  simp only [moreRemains_eq_true]
  rfl

/-! ## `POLL` in `SEND_OK` (R252) -/

@[simp] theorem occTick_cfg (s : State) : s.occTick.cfg = s.cfg := by
  obtain ⟨o, w, ho⟩ := occTick_shape s
  rw [ho]

@[simp] theorem occTick_csma (s : State) : s.occTick.csma = s.csma := by
  obtain ⟨o, w, ho⟩ := occTick_shape s
  rw [ho]

theorem poll_sendOk {s : State} (hx : s.mac.tx = .sendOk) :
    exec .poll s = .next (tickSendOk s.occTick).pollAnswer := by
  apply poll_next
  unfold txTick
  rw [occTick_tx, hx]

theorem tickSendOk_done {s : State} (h : s.txd.len.toNat ≤ s.segDone.sess.sentOffset.toNat) :
    tickSendOk s = s.segDone.accessOk.conclude .success :=
  if_neg fun hmore => Nat.not_lt.2 h ((moreRemains_eq_true s.segDone).1 hmore)

section

variable {s : State} (hmore : s.segDone.sess.sentOffset.toNat < s.txd.len.toNat)
include hmore

/-- Segment number 63 is the last there is (R199). -/
theorem tickSendOk_exhausted (hindex : s.sess.segIndex = 63#6) : tickSendOk s = s.segDone.conclude .denied :=
  (if_pos ((moreRemains_eq_true s.segDone).2 hmore)).trans (if_pos hindex)

theorem tickSendOk_builds (hindex : s.sess.segIndex ≠ 63#6) :
    tickSendOk s = s.segDone.nextIndex.buildThen (fun t => (t.setImmediate true).setTx .waitSend) :=
  (if_pos ((moreRemains_eq_true s.segDone).2 hmore)).trans (if_neg hindex)

end

/-- Settles O41: what the transition reads, the occupancy transition before it keeps; the rest is one equation of
`tickSendOk` for each case. -/
theorem pollSendOk : Obligations.PollSendOk := by
  intro s d hx hd
  rw [← occTick_sess s, BitVec.ofNat_toNat] at hd
  rw [poll_sendOk hx, ← occTick_txd s, ← occTick_csma s, ← occTick_cfg s, ← occTick_sess s]
  generalize s.occTick = p at *
  obtain rfl : d = p.segDone := hd
  refine ⟨fun hall => ?_, fun hmore => ⟨fun hindex => ?_, fun hindex v hv => ?_⟩⟩
  · rw [tickSendOk_done hall]
    rfl
  · rw [tickSendOk_exhausted hmore hindex]
  · have hnext : v = p.segDone.nextIndex := by
      rw [hv, BitVec.ofNat_add, BitVec.ofNat_toNat, BitVec.setWidth_eq]
      rfl
    rw [tickSendOk_builds hmore hindex, State.buildThen, ← hnext]
    rcases v.nextSeg with _ | w
    · rfl
    · rfl

/-! ## The iteration of R197 -/

/-- The position the iteration goes on from, once segment `t` has been built. -/
def State.advance (t : State) : State :=
  { t.segDone with sess := { t.segDone.sess with segIndex := t.sess.segIndex + 1#6 } }

@[simp] theorem State.advance_cfg (t : State) : t.advance.cfg = t.cfg := rfl
@[simp] theorem State.advance_txd (t : State) : t.advance.txd = t.txd := rfl

/-- The headers of a request differ in the segment number alone (R192). -/
theorem segHeader_advance (s : State) (b : List Byte) :
    (s.withSegment b).advance.segHeader = { s.segHeader with segNum := s.sess.segIndex + 1#6 } := by
  rw [State.segHeader, State.advance_cfg, State.advance_txd, State.withSegment_cfg, State.withSegment_txd]
  rfl

section

variable {rsPad : SnapIn → Nat → Nat} {s t : State} (fuel : Nat) (h : s.nextSegWith rsPad = some t)
include h

theorem segmentsFrom_last (hlast : t.mac.moreFrag = false) : segmentsFrom rsPad (fuel + 1) s = some [t] := by
  rw [segmentsFrom, h]
  exact if_neg (Bool.not_eq_true _ ▸ hlast)

theorem segmentsFrom_more (hmore : t.mac.moreFrag = true) :
    segmentsFrom rsPad (fuel + 1) s = (segmentsFrom rsPad fuel t.advance).map (t :: ·) := by
  rw [segmentsFrom, h]
  exact if_pos hmore

end

/-- What carries the iteration on (R197): the offset inside the payload, room for payload beside the largest overhead,
and a padding that keeps the frames of the snapshot inside `TXBUF`. -/
structure Segmentable (rsPad : SnapIn → Nat → Nat) (s : State) : Prop where
  offset : s.sess.sentOffset.toNat ≤ s.txd.len.toNat
  room : overhead { s.segHeader with segNum := 0#6 } < s.snap.maxPhy.toNat
  padding : ∀ n : Nat, n ≤ 1057 → n ≤ s.snap.maxPhy.toNat → n + rsPad s.snap.snapIn n ≤ 2048

theorem nextSegLen_le_remaining (s : State) : s.nextSegLen ≤ s.remaining := min_le_right _ _

section

variable {rsPad : SnapIn → Nat → Nat} {s : State} (h : Segmentable rsPad s)
include h

theorem Segmentable.overhead_lt : overhead s.segHeader < s.snap.maxPhy.toNat :=
  (overhead_segNum_le s.segHeader s.sess.segIndex).trans_lt h.room

/-- No `SegFault` of any kind: at most 34 bytes of overhead and 1023 of payload make a frame the padding premise is
about. -/
theorem Segmentable.builds : ∃ b, s.nextSegWith rsPad = some (s.withSegment b) := by
  have hroom := h.overhead_lt
  have hhdr := hdrLen_le s.segHeader
  have hlen := nextSegLen_le s
  have hfits : s.nextSegTotal rsPad ≤ 2048 := by
    rw [nextSegTotal_eq]
    exact h.padding _ (by unfold overhead; omega) (overhead_add_nextSegLen_le s hroom)
  obtain ⟨b, -, -, hb⟩ := nextSegWith_built s rsPad ((segFault_eq_false s rsPad).2 ⟨h.offset, hroom, hfits⟩)
  exact ⟨b, hb⟩

/-- A segment that does not exhaust what remains carries at least one byte, so the iteration makes progress. -/
theorem Segmentable.nextSegLen_pos (hmore : s.nextSegLen ≠ s.remaining) : 0 < s.nextSegLen := by
  have hroom := h.overhead_lt
  unfold State.nextSegLen State.maxSeg Config.maxSegLen at *
  omega

/-- The offset stays inside the payload, so the addition of R198 does not wrap. -/
theorem Segmentable.advance_sentOffset (b : List Byte) :
    (s.withSegment b).advance.sess.sentOffset.toNat = s.sess.sentOffset.toNat + s.nextSegLen := by
  have hlen := s.txd.len.isLt
  have hoff := h.offset
  have hle := nextSegLen_le_remaining s
  unfold State.remaining at hle
  calc (s.withSegment b).advance.sess.sentOffset.toNat
      = (s.sess.sentOffset.toNat + (s.withSegment b).sess.segLen.toNat) % 2 ^ 16 :=
        segDone_sentOffset_toNat (s.withSegment b)
    _ = s.sess.sentOffset.toNat + s.nextSegLen := by
        rw [withSegment_segLen_toNat, Nat.mod_eq_of_lt (by omega)]

theorem Segmentable.advance_remaining (b : List Byte) :
    (s.withSegment b).advance.remaining = s.remaining - s.nextSegLen := by
  rw [State.remaining, h.advance_sentOffset b, ← Nat.sub_sub]
  rfl

theorem Segmentable.advance (b : List Byte) : Segmentable rsPad (s.withSegment b).advance where
  offset := by
    have hoff := h.offset
    have hle := nextSegLen_le_remaining s
    unfold State.remaining at hle
    rw [h.advance_sentOffset b, State.advance_txd, State.withSegment_txd]
    omega
  room := by
    rw [segHeader_advance]
    exact h.room
  padding := h.padding

end

/-- `t` stands right after segment number `i` was built, the last one or not: what `MORE_FRAG`, `SEG_INDEX` and the
segment control of TXFR show of it (R192, R193). -/
structure ShowsSegment (i : BitVec 6) (last : Bool) (t : State) : Prop where
  moreFrag : t.mac.moreFrag = !last
  segIndex : t.sess.segIndex = i
  lsf : t.txfr.sc.getLsbD 16 = last
  segNum : t.txfr.sc.extractLsb' 10 6 = i

theorem withSegment_showsSegment (s : State) (b : List Byte) :
    ShowsSegment s.sess.segIndex s.nextSegLast (s.withSegment b) := by
  obtain ⟨-, hsegNum, hlsf, -, -⟩ := scImage_fields s.nextSegFrame
  exact ⟨rfl, rfl, hlsf, hsegNum⟩

/-- The segments number up from `i` in 6 bits, and exactly the final one is the last. -/
def NumberedSegments (i : BitVec 6) (l : List State) : Prop :=
  ∀ k (h : k < l.length), ShowsSegment (i + BitVec.ofNat 6 k) (decide (k + 1 = l.length)) l[k]

theorem numberedSegments_singleton {i : BitVec 6} {t : State} (h : ShowsSegment i true t) : NumberedSegments i [t] := by
  intro k hk
  obtain rfl : k = 0 := Nat.lt_one_iff.1 hk
  rw [BitVec.add_zero]
  exact h

theorem numberedSegments_cons {i : BitVec 6} {t : State} {l : List State} (hl : 0 < l.length)
    (ht : ShowsSegment i false t) (h : NumberedSegments (i + 1#6) l) : NumberedSegments i (t :: l) := by
  intro k hk
  cases k with
  | zero =>
    have hne : ¬ 0 + 1 = (t :: l).length := by
      rw [List.length_cons]
      omega
    rw [decide_eq_false hne, BitVec.add_zero]
    exact ht
  | succ k =>
    have hnum : i + BitVec.ofNat 6 (k + 1) = i + 1#6 + BitVec.ofNat 6 k := by
      rw [BitVec.ofNat_add, BitVec.add_comm (BitVec.ofNat 6 k), BitVec.add_assoc]
    simpa [hnum] using h k (Nat.lt_of_succ_lt_succ hk)

/-- The iteration from any position: fuel beyond the bytes that remain suffices, since every segment but the last takes
at least one of them. -/
theorem Segmentable.completes {rsPad : SnapIn → Nat → Nat} (fuel : Nat) (s : State) (h : Segmentable rsPad s)
    (hfuel : s.remaining < fuel) :
    ∃ l, segmentsFrom rsPad fuel s = some l ∧ 0 < l.length ∧
      (l.map (fun t => t.sess.segLen.toNat)).sum = s.remaining ∧ NumberedSegments s.sess.segIndex l := by
  induction fuel generalizing s with
  | zero => exact absurd hfuel (Nat.not_lt_zero _)
  | succ fuel ih =>
    obtain ⟨b, hb⟩ := h.builds
    have hsegLen := withSegment_segLen_toNat s b
    have hshows := withSegment_showsSegment s b
    by_cases hlast : s.nextSegLen = s.remaining
    · rw [State.nextSegLast, decide_eq_true hlast] at hshows
      refine ⟨_, segmentsFrom_last fuel hb hshows.moreFrag, Nat.one_pos, ?_, numberedSegments_singleton hshows⟩
      rw [List.map_singleton, List.sum_singleton, hsegLen, hlast]
    · rw [State.nextSegLast, decide_eq_false hlast] at hshows
      have hpos := h.nextSegLen_pos hlast
      have hle := nextSegLen_le_remaining s
      have hrest := h.advance_remaining b
      obtain ⟨l, hl, hne, hsum, hnum⟩ := ih _ (h.advance b) (by omega)
      refine ⟨_ :: l, ?_, Nat.succ_pos _, ?_, numberedSegments_cons hne hshows hnum⟩
      · rw [segmentsFrom_more fuel hb hshows.moreFrag, hl]
        rfl
      · rw [List.map_cons, List.sum_cons, hsegLen, hsum]
        omega

/-- Settles O28: the premises make the start `Segmentable`, and `Segmentable.completes` is the iteration from there. -/
theorem segmentsComplete : Obligations.SegmentsComplete := by
  intro s rsPad hindex hoffset hroom hpadding
  have hremaining : s.remaining = s.txd.len.toNat := by
    rw [State.remaining, hoffset]
    rfl
  have hstart : Segmentable rsPad s := by
    refine ⟨?_, ?_, hpadding⟩
    · rw [hoffset]
      exact Nat.zero_le _
    · rw [← hindex]
      exact hroom
  obtain ⟨l, hl, hne, hsum, hnum⟩ := hstart.completes (s.txd.len.toNat + 1) s (by omega)
  refine ⟨l, hl, hne, hsum.trans hremaining, fun k hk => ?_⟩
  obtain ⟨hmoreFrag, hsegIndex, hlsf, hsegNum⟩ := hnum k hk
  rw [hindex, BitVec.zero_add] at hsegIndex hsegNum
  exact ⟨hmoreFrag.trans decide_not.symm, hsegIndex, hlsf, hsegNum⟩

end Sys2Proof.Machine

/-! The family of `44_host_commands.md`: a request ends with exactly one confirm, `RESET` and the power-on values, and
`TXREQ`. -/

namespace Sys2Proof.Machine

/-! ## Counting the confirms between two states (R104) -/

/-- `t` holds the effects of `s` and further ones, `n` of them `TX_CONFIRM`. -/
def Confirms (n : Nat) (s t : State) : Prop :=
  ∃ l, t.effects = s.effects ++ l ∧ countBy Effect.isTxConfirm l = n

theorem Confirms.countBy_newEffects {n : Nat} {s t : State} (h : Confirms n s t) :
    countBy Effect.isTxConfirm (newEffects s t) = n := by
  obtain ⟨l, hl, hn⟩ := h
  rw [newEffects, hl, List.drop_left, hn]

theorem Confirms.trans {m n : Nat} {s t u : State} (hst : Confirms m s t) (htu : Confirms n t u) :
    Confirms (m + n) s u := by
  obtain ⟨l, hl, hm⟩ := hst
  obtain ⟨k, hk, hn⟩ := htu
  refine ⟨l ++ k, by rw [hk, hl, List.append_assoc], ?_⟩
  rw [countBy] at hm hn ⊢
  rw [List.filter_append, List.length_append, hm, hn]

theorem confirms_of_effects_eq {s t : State} (h : t.effects = s.effects) : Confirms 0 s t :=
  ⟨[], by rw [h, List.append_nil], rfl⟩

theorem confirms_emit (s : State) {e : Effect} (he : e.isTxConfirm = false) : Confirms 0 s (s.emit e) :=
  ⟨[e], rfl, by rw [countBy, List.filter_cons_of_neg (by simp [he])]; rfl⟩

theorem confirms_conclude (s : State) (o : TxOutcome) : Confirms 1 s (s.conclude o) := ⟨_, rfl, rfl⟩

/-! ## What neither confirms nor ends a request -/

/-- `t` holds no `TX_CONFIRM` beyond those of `s`, and a request active in `s` is active in `t`. -/
structure Silent (s t : State) : Prop where
  confirms : Confirms 0 s t
  active_of_active : s.mac.tx ≠ .none → t.mac.tx ≠ .none

theorem Silent.trans {s t u : State} (hst : Silent s t) (htu : Silent t u) : Silent s u :=
  ⟨hst.confirms.trans htu.confirms, fun hs => htu.active_of_active (hst.active_of_active hs)⟩

theorem silent_of_eq {s t : State} (hx : t.mac.tx = s.mac.tx) (he : t.effects = s.effects) : Silent s t :=
  ⟨confirms_of_effects_eq he, fun hs => by rwa [hx]⟩

theorem Silent.refl (s : State) : Silent s s := silent_of_eq rfl rfl

/-- `STATE.TX` is given a value other than `NONE`, nothing is emitted. -/
theorem silent_of_active {s t : State} (hx : t.mac.tx ≠ .none) (he : t.effects = s.effects) : Silent s t :=
  ⟨confirms_of_effects_eq he, fun _ => hx⟩

theorem silent_setTx (s : State) {x : TxSub} (hx : x ≠ .none) : Silent s (s.setTx x) := silent_of_active hx rfl

theorem silent_emit (s : State) {e : Effect} (he : e.isTxConfirm = false) : Silent s (s.emit e) :=
  ⟨confirms_emit s he, id⟩

theorem silent_respond (s : State) (c : RspCode) (r : BitVec 24) : Silent s (s.respond c r) := silent_of_eq rfl rfl

theorem silent_enterOcc (s : State) (o : Occ) : Silent s (s.enterOcc o) := silent_of_eq rfl rfl

theorem silent_occTick (s : State) : Silent s s.occTick := by
  obtain ⟨o, w, ho⟩ := occTick_shape s
  rw [ho]
  exact silent_of_eq rfl rfl

theorem Built.silent {s w : State} (h : Built s w) : Silent s w := by
  obtain ⟨b, -, rfl⟩ := h
  exact silent_of_eq rfl rfl

/-- The fallback announces the snapshot and confirms nothing (R254). -/
theorem silent_applyFallback (s : State) : Silent s s.applyFallback := by
  rcases applyFallback_shape s with hs | ⟨b, hs⟩ <;> rw [hs]
  · exact .refl s
  · have hsnap : Silent s { s with snap := b } := silent_of_eq rfl rfl
    exact hsnap.trans (silent_emit _ rfl)

theorem silent_writeReg (s : State) (r : Reg) (v : Word) : Silent s (s.writeReg r v) := by
  rw [writeReg_shape]
  exact silent_of_eq rfl rfl

theorem silent_countDecode (s : State) (n : Nat) : Silent s (s.countDecode n) := by
  rcases countDecode_cases s n with ⟨code, -, hs⟩ | ⟨f, pad, -, hs⟩ <;> rw [hs]
  · exact silent_of_eq rfl rfl
  · exact silent_of_eq rfl rfl

theorem getConfirm_isTxConfirm (s : State) (n : BitVec 8) : (s.getConfirm n).isTxConfirm = false := by
  unfold State.getConfirm
  split
  · rfl
  · rfl

/-! ## The PHY's reports that keep a request (R245, R246, R261, R266) -/

theorem silent_confirmSuccess (s : State) (time : Word) : Silent s (s.confirmSuccess time) := by
  unfold State.confirmSuccess
  dsimp only
  split
  · exact silent_of_active nofun rfl
  · exact silent_of_active nofun rfl

theorem silent_interrupt (s : State) : Silent s s.interrupt := by
  unfold State.interrupt
  split
  · exact silent_setTx s nofun
  · exact .refl s

theorem silent_deliver (s : State) (f : Frame) (ack : Bool) (time : Word) : Silent s (s.deliver f ack time) := by
  have hdata : Silent s (if s.cfg.addressFilter f then s.emit (.dataInd s.rxfr f.payload time) else s) := by
    split
    · exact silent_emit s rfl
    · exact .refl s
  unfold State.deliver
  dsimp only
  split
  · exact hdata.trans (silent_emit _ rfl)
  · exact hdata

theorem silent_received (s : State) (r : DecodeResult) (ack : Bool) (time : Word) :
    Silent s (s.received r ack time) := by
  cases r with
  | reject code => exact (silent_enterOcc s _).trans (silent_respond _ _ _)
  | ok f pad =>
    have hcompensate : Silent s s.compensate := silent_of_eq rfl rfl
    have hdelivered : Silent s (s.compensate.interrupt.deliver f ack time) :=
      (hcompensate.trans (silent_interrupt _)).trans (silent_deliver _ f ack time)
    exact (hdelivered.trans (silent_enterOcc _ _)).trans (silent_respond _ _ _)

/-- An acknowledgement of the frame on air moves `WAIT_ACK` on inside the request (R268). -/
theorem silent_acknowledged (s : State) (d : Delim) (sub : Bool) (fcs : BitVec 16) :
    Silent s (s.acknowledged d sub fcs) := by
  unfold State.acknowledged
  dsimp only
  split
  · rename_i hmine
    have hx : s.mac.tx = .waitAck := of_decide_eq_true (Bool.and_eq_true_iff.1 hmine).1
    rw [hx]
    exact (silent_enterOcc s _).trans (silent_setTx _ (txAfterAck_ne_none d sub))
  · exact silent_enterOcc s _

/-! ## What ends a request confirms once (R225) -/

/-- From `s` to `t` a request ends with one `TX_CONFIRM`, or none ends and there is no `TX_CONFIRM`. -/
inductive EndsWithConfirm (s t : State) : Prop
  | silent (h : Silent s t)
  | ended (hactive : s.mac.tx ≠ .none) (hend : t.mac.tx = .none) (h : Confirms 1 s t)

/-- `conclude` after steps of the same transition that emit no `TX_CONFIRM`. -/
theorem Silent.concluded {s v : State} (h : Silent s v) (hactive : s.mac.tx ≠ .none) (o : TxOutcome) :
    EndsWithConfirm s (v.conclude o) :=
  .ended hactive rfl (h.confirms.trans (confirms_conclude v o))

theorem endsWithConfirm_conclude {s : State} (hactive : s.mac.tx ≠ .none) (o : TxOutcome) :
    EndsWithConfirm s (s.conclude o) :=
  (Silent.refl s).concluded hactive o

theorem EndsWithConfirm.respond {s t : State} (h : EndsWithConfirm s t) (c : RspCode) (r : BitVec 24) :
    EndsWithConfirm s (t.respond c r) := by
  have hrespond := silent_respond t c r
  cases h with
  | silent h => exact .silent (h.trans hrespond)
  | ended hactive hend h => exact .ended hactive hend (h.trans hrespond.confirms)

/-- A state that differs in neither `STATE.TX` nor the effects may stand in front. -/
theorem EndsWithConfirm.after_silent {s t u : State} (hst : Silent s t) (hx : t.mac.tx = s.mac.tx)
    (h : EndsWithConfirm t u) : EndsWithConfirm s u := by
  cases h with
  | silent h => exact .silent (hst.trans h)
  | ended hactive hend h =>
    have hcount := hst.confirms.trans h
    rw [Nat.zero_add] at hcount
    exact .ended (hx ▸ hactive) hend hcount

/-! ## The transmit machine, sub-state by sub-state (R223) -/

theorem tickStart_endsWithConfirm {s u : State} (hactive : s.mac.tx ≠ .none) (h : tickStart s = .next u) :
    EndsWithConfirm s u := by
  obtain ⟨b, v, -, hv, hu⟩ := tickStart_cases s u h
  have hsv : Silent s v := by
    have hload : Silent s (({ s with snap := b } : State).setRetries s.cfg.maxFrameRetries) := silent_of_eq rfl rfl
    rw [hv]
    exact hload.trans (silent_emit _ rfl)
  rcases hu with rfl | ⟨w, hw, rfl⟩
  · exact hsv.concluded hactive _
  · exact .silent ((hsv.trans hw.silent).trans (silent_setTx w nofun))

theorem silent_tickCsmaCa (s : State) : Silent s (tickCsmaCa s) := silent_of_active nofun rfl

theorem silent_tickWaitSend {s u : State} (h : tickWaitSend s = .next u) : Silent s u := by
  rcases tickWaitSend_cases s u h with ⟨-, rfl⟩ | ⟨time, sense, -, rfl⟩
  · exact .refl u
  · exact (silent_emit s rfl).trans (silent_of_active nofun rfl)

theorem tickFailCsmaCa_endsWithConfirm {s : State} (hactive : s.mac.tx ≠ .none) :
    EndsWithConfirm s (tickFailCsmaCa s) := by
  unfold tickFailCsmaCa
  split
  · exact endsWithConfirm_conclude hactive _
  · split
    · exact .silent (silent_setTx s nofun)
    · exact .silent (silent_setTx s nofun)

theorem silent_tickWaitAck (s : State) : Silent s (tickWaitAck s) := by
  unfold tickWaitAck
  split
  · exact silent_setTx s nofun
  · exact .refl s

theorem tickSendOk_endsWithConfirm {s : State} (hactive : s.mac.tx ≠ .none) : EndsWithConfirm s (tickSendOk s) := by
  have hdone : Silent s s.segDone := silent_of_eq rfl rfl
  have hnext : Silent s s.segDone.nextIndex := silent_of_eq rfl rfl
  have hok : Silent s s.segDone.accessOk := silent_of_eq rfl rfl
  rcases tickSendOk_cases s with h | h | ⟨w, hw, h⟩ | h <;> rw [h]
  · exact hdone.concluded hactive _
  · exact hnext.concluded hactive _
  · exact .silent ((hnext.trans hw.silent).trans (silent_of_active nofun rfl))
  · exact hok.concluded hactive _

theorem tickLittleFail_endsWithConfirm {s : State} (hactive : s.mac.tx ≠ .none) :
    EndsWithConfirm s (tickLittleFail s) := by
  unfold tickLittleFail
  split
  · exact endsWithConfirm_conclude hactive _
  · exact .silent (silent_of_active nofun rfl)

theorem tickBigFail_endsWithConfirm {s : State} (hactive : s.mac.tx ≠ .none) : EndsWithConfirm s (tickBigFail s) := by
  rcases tickBigFail_cases s with h | ⟨v, hv, h⟩
  · rw [h]
    exact endsWithConfirm_conclude hactive _
  · have hretries : Silent s (s.setRetries (s.sess.retriesLeft - 1#8)) := silent_of_eq rfl rfl
    have hsv : Silent s v := hv ▸ hretries.trans (silent_applyFallback _)
    rcases h with h | ⟨w, hw, h⟩ <;> rw [h]
    · exact hsv.concluded hactive _
    · exact .silent ((hsv.trans hw.silent).trans (silent_of_active nofun rfl))

theorem txTick_endsWithConfirm {s u : State} (h : txTick s = .next u) : EndsWithConfirm s u := by
  unfold txTick at h
  rcases hx : s.mac.tx <;> rw [hx] at h <;> dsimp only at h
  case start => exact tickStart_endsWithConfirm (by simp [hx]) h
  case waitSend => exact .silent (silent_tickWaitSend h)
  all_goals obtain rfl := Host.Outcome.next.inj h
  case none | waitConfirm => exact .silent (.refl s)
  case csmaCa => exact .silent (silent_tickCsmaCa s)
  case failCsmaCa => exact tickFailCsmaCa_endsWithConfirm (by simp [hx])
  case waitAck => exact .silent (silent_tickWaitAck s)
  case sendOk => exact tickSendOk_endsWithConfirm (by simp [hx])
  case littleFail => exact tickLittleFail_endsWithConfirm (by simp [hx])
  case bigFail => exact tickBigFail_endsWithConfirm (by simp [hx])

/-! ## Every operation -/

/-- A transmit confirm ends the request on the statuses of R247 and R248 alone. -/
theorem txConfirmed_endsWithConfirm (s : State) (status : PhyStatus) (time : Word) :
    EndsWithConfirm s (s.txConfirmed status time) := by
  have hclear : Silent s s.clearComp := silent_of_eq rfl rfl
  unfold State.txConfirmed
  split
  · exact .silent (silent_enterOcc s _)
  · rename_i hx
    rw [not_not] at hx
    have hactive : s.mac.tx ≠ .none := by simp [hx]
    cases status with
    | success => exact .silent (hclear.trans (silent_confirmSuccess _ time))
    | busyChannelSense | busyOwnRx => exact .silent (silent_of_active nofun rfl)
    | busyOwnTx | unknown => exact .ended hactive rfl (confirms_conclude s.clearComp _)

theorem Does.endsWithConfirm {i : Instr} {s t : State} (h : Does i s t) (hreset : ∀ clr, i ≠ .reset clr) :
    EndsWithConfirm s t := by
  cases i with
  | reset clr => exact absurd rfl (hreset clr)
  | poll =>
    obtain ⟨u, hu, rfl⟩ := h
    exact ((txTick_endsWithConfirm hu).after_silent (silent_occTick s) (occTick_tx s)).respond _ _
  | txcfm status time =>
    obtain rfl := h
    exact (txConfirmed_endsWithConfirm s status time).respond _ _
  | get n =>
    obtain rfl := h
    exact .silent ((silent_emit s (getConfirm_isTxConfirm s n)).trans (silent_respond _ _ _))
  | set n v =>
    obtain ⟨-, r, -, -, -, rfl⟩ := h
    exact .silent ((silent_writeReg s r v).trans (silent_respond _ _ _))
  | txreq =>
    obtain ⟨-, -, rfl⟩ := h
    exact .silent (silent_of_active nofun rfl)
  | rxind len ack time =>
    obtain rfl := h
    exact .silent ((silent_countDecode s _).trans (silent_received _ _ ack time))
  | ackind d sub fcs =>
    obtain rfl := h
    exact .silent ((silent_acknowledged s d sub fcs).trans (silent_respond _ _ _))
  | decode =>
    obtain ⟨-, r, rfl⟩ := h
    exact .silent ((silent_countDecode s _).trans (silent_respond _ _ _))
  | encode =>
    obtain ⟨-, b, r, -, rfl⟩ := h
    exact .silent (silent_of_eq rfl rfl)
  | nextseg seg off =>
    obtain ⟨-, w, hw, rfl⟩ := h
    have hseek : Silent s (s.seek seg off) := silent_of_eq rfl rfl
    exact .silent ((hseek.trans hw.silent).trans (silent_respond _ _ _))
  | phycalc | fallback =>
    obtain ⟨-, b, r, rfl⟩ := h
    exact .silent (silent_of_eq rfl rfl)
  | crc16 | hdrlen | backoff | accfail | accok | compensate | segdone =>
    obtain ⟨-, r, rfl⟩ := h
    exact .silent (silent_of_eq rfl rfl)

theorem exec_endsWithConfirm {i : Instr} {s t : State} (h : exec i s = .next t) (hreset : ∀ clr, i ≠ .reset clr) :
    EndsWithConfirm s t := by
  rcases exec_cases i s t h with ⟨c, -, rfl⟩ | hd
  · exact .silent (silent_respond s c _)
  · exact hd.endsWithConfirm hreset

/-- `RESET` drops a request without a confirm (R201). -/
theorem exec_reset_confirms {clr : Bool} {s t : State} (h : exec (.reset clr) s = .next t) : Confirms 0 s t := by
  rw [← Host.Outcome.next.inj h]
  exact confirms_of_effects_eq rfl

/-- Settles O53: `RESET` emits nothing; every other operation ends a request by one `conclude` or is silent. -/
theorem confirmAtTheEnd : Obligations.ConfirmAtTheEnd := by
  intro i s t h
  refine ⟨fun hactive hend hreset => ?_, fun hkeeps => ?_⟩
  · cases exec_endsWithConfirm h hreset with
    | silent hsilent => exact absurd hend (hsilent.active_of_active hactive)
    | ended _ _ hone => exact hone.countBy_newEffects
  · by_cases hreset : ∃ clr, i = .reset clr
    · obtain ⟨clr, rfl⟩ := hreset
      exact (exec_reset_confirms h).countBy_newEffects
    · cases exec_endsWithConfirm h (not_exists.1 hreset) with
      | silent hsilent => exact hsilent.confirms.countBy_newEffects
      | ended hactive hend _ =>
        rcases hkeeps with hidle | hstill | hr
        · exact absurd hidle hactive
        · exact absurd hend hstill
        · exact absurd hr hreset

/-! ## Power-on and `RESET` (R43, R201, R202) -/

@[simp] theorem readReg_respond (s : State) (c : RspCode) (v : BitVec 24) (r : Reg) :
    (s.respond c v).readReg r = s.readReg r := by
  cases r with
  | status r => cases r <;> rfl
  | cfg | cnt | snap | txd | txfr | rxfr | rx => rfl

theorem stateBits_reset : MacBank.reset.stateBits = 0#13 := by decide

theorem modImage_reset : SnapBank.reset.modImage = 0#5 := by decide

/-- `CW` apart, a register outside the configuration is 0 after `RESET`, whatever it was (R201). -/
theorem readReg_cleared_eq_zero (s : State) (clr : Bool) {r : Reg} (hcfg : ∀ c, r ≠ .cfg c)
    (hcw : r ≠ .status .cw) : (s.cleared clr).readReg r = 0#32 := by
  cases r with
  | cfg c => exact absurd rfl (hcfg c)
  | status r =>
    cases r with
    | cw => exact absurd rfl hcw
    | state => exact congrArg (BitVec.setWidth 32) stateBits_reset
    | _ => rfl
  | snap r =>
    cases r with
    | mod => exact congrArg (BitVec.setWidth 32) modImage_reset
    | _ => rfl
  | cnt r | txd r | txfr r | rxfr r | rx r => cases r <;> rfl

theorem cleared_cw_toNat (s : State) (clr : Bool) :
    (s.cleared clr).csma.cw.toNat = 2 ^ (s.cleared clr).cfg.minBE.toNat :=
  ofNat_minW (s.cleared clr).cfg

/-- `RESET 1` leaves every register as after power-on (R202). -/
theorem readReg_cleared_true (s : State) (r : Reg) : (s.cleared true).readReg r = State.reset.readReg r := by
  cases r with
  | status r => cases r <;> rfl
  | cfg | cnt | snap | txd | txfr | rxfr | rx => rfl

/-- The power-on values outside the configuration bank (R30 to R40). -/
theorem readReg_reset {r : Reg} (hcfg : ∀ c, r ≠ .cfg c) :
    State.reset.readReg r = if r = .status .cw then 8#32 else 0#32 := by
  split
  · rename_i hcw
    rw [hcw]
    rfl
  · rename_i hcw
    rw [← readReg_cleared_true State.reset, readReg_cleared_eq_zero _ _ hcfg hcw]

/-- Settles O30: power-on and `RESET` fill the banks with the same reset values, and `RESET` sets `CW` from the
configuration it leaves. -/
theorem resetOperation : Obligations.ResetOperation := by
  refine ⟨fun r => ?_, fun r hcfg => readReg_reset hcfg, fun a => ⟨Memory.read_nil a, Memory.read_nil a⟩,
    fun s clr => ⟨_, rfl, rfl, rfl, rfl, ?_, ?_, cleared_cw_toNat s clr, fun r hcfg hcw => ?_, Memory.read_nil,
      Memory.read_nil, fun a => rfl⟩⟩
  · cases r <;> rfl
  · rintro rfl
    rfl
  · rintro rfl r
    rw [readReg_respond, readReg_cleared_true]
  · rw [readReg_respond, readReg_cleared_eq_zero s clr hcfg hcw]

/-! ## `TXREQ` (R205) -/

theorem addrModeOf_eq_reserved_iff (b : BitVec 2) : addrModeOf b = .reserved ↔ b = 1#2 := by
  revert b
  decide

/-- The descriptor `TXREQ` refuses, by its bits (R29, R205). -/
theorem unacceptable_eq_true_iff (t : TxdBank) :
    t.unacceptable = true ↔
      t.ctrl.extractLsb' 8 2 = 1#2 ∨ t.ctrl.extractLsb' 10 2 = 1#2 ∨ 4 < (t.ctrl.extractLsb' 12 3).toNat := by
  simp only [TxdBank.unacceptable, TxdBank.modeReserved, Bool.or_eq_true, decide_eq_true_eq, TxdBank.dstMode,
    TxdBank.srcMode, TxdBank.modTypeBits, addrModeOf_eq_reserved_iff, modOf_eq_none_iff, or_assoc]

theorem txreq_busy {s : State} (hactive : s.mac.tx ≠ .none) :
    exec .txreq s = .next (s.respond .rejected 0#24) :=
  if_pos (busy_eq_true s hactive)

/-- With no request active the descriptor decides (R205, R283). -/
theorem txreq_idle {s : State} (hidle : s.mac.tx = .none) :
    exec .txreq s =
      if s.txd.unacceptable then .next (s.respond .errParam 0#24)
      else .next (s.acceptRequest.respond .ok (s.sess.dsn.setWidth 24)) :=
  if_neg (by simp [busy_eq_false s hidle])

/-- `DSN` is handed out and counted on modulo 256 (R205). -/
theorem SessBank.accepted_eq (b : SessBank) :
    b.accepted =
      { b with
        reqSeq := b.dsn
        dsn := BitVec.ofNat 8 (b.dsn.toNat + 1)
        segIndex := 0#6
        sentOffset := 0#16
        segLen := 0#10
        retriesLeft := 0#8 } := by
  rw [BitVec.ofNat_add, BitVec.ofNat_toNat, BitVec.setWidth_eq]
  rfl

/-- Settles O34: the two refusals in their order, and the accepted request as `acceptRequest` writes it. -/
theorem txreqOperation : Obligations.TxreqOperation := by
  intro s
  refine ⟨fun hactive => txreq_busy hactive, fun hidle => ⟨fun hbad => ?_, fun hdst hsrc hmod => ?_⟩⟩
  · rw [txreq_idle hidle, if_pos ((unacceptable_eq_true_iff _).2 hbad)]
    rfl
  · have hok : ¬ s.txd.unacceptable = true := by
      rw [unacceptable_eq_true_iff]
      rintro (h | h | h)
      · exact hdst h
      · exact hsrc h
      · exact Nat.not_lt.2 hmod h
    rw [txreq_idle hidle, if_neg hok, ← SessBank.accepted_eq, BitVec.ofNat_toNat]
    rfl

end Sys2Proof.Machine

/-! The family of `45_mac_state_machine.md`: what moves the transmit machine and how a request ends, the occupancy
machine, `POLL` sub-state by sub-state, the PHY's reports, and the modulation fallback. -/

namespace Sys2Proof.Machine

/-! ## What the occupancy transition keeps (R221) -/

@[simp] theorem occTick_now (s : State) : s.occTick.now = s.now := by
  obtain ⟨o, w, ho⟩ := occTick_shape s
  rw [ho]

@[simp] theorem occTick_immediate (s : State) : s.occTick.mac.immediate = s.mac.immediate := by
  obtain ⟨o, w, ho⟩ := occTick_shape s
  rw [ho]

@[simp] theorem occTick_txEntered (s : State) : s.occTick.mac.txEntered = s.mac.txEntered := by
  obtain ⟨o, w, ho⟩ := occTick_shape s
  rw [ho]

@[simp] theorem occTick_snap (s : State) : s.occTick.snap = s.snap := by
  obtain ⟨o, w, ho⟩ := occTick_shape s
  rw [ho]

@[simp] theorem occTick_effects (s : State) : s.occTick.effects = s.effects := by
  obtain ⟨o, w, ho⟩ := occTick_shape s
  rw [ho]

/-! ## A reception, piece by piece (R261, R263, R264) -/

theorem interrupt_eq (s : State) :
    s.interrupt =
      { s with mac := { s.mac with tx := if s.mac.tx = .waitConfirm then .waitSend else s.mac.tx } } := by
  unfold State.interrupt
  by_cases hx : s.mac.tx = .waitConfirm
  · rw [if_pos hx, if_pos hx]
    rfl
  · rw [if_neg hx, if_neg hx]

/-- `DATA_IND` when the filter passes, and then `PHY_ACK_REQ` when the PHY asked and the frame is unicast to this node
(R263, R264). -/
theorem deliver_eq (s : State) (f : Frame) (ack : Bool) (time : Word) :
    s.deliver f ack time =
      { s with
        effects :=
          s.effects ++ (if s.cfg.addressFilter f then [.dataInd s.rxfr f.payload time] else []) ++
            (if s.cfg.addressFilter f && ack && s.cfg.isUnicastToMe f then
              [.phyAckReq .ack (!f.lsf) s.rxfr.fcs (s.now + s.cfg.rifsTime)] else []) } := by
  unfold State.deliver
  cases s.cfg.addressFilter f with
  | false => simp
  | true =>
    rw [Bool.true_and]
    cases ack && s.cfg.isUnicastToMe f with
    | false => simp [State.emit]
    | true => rfl

/-! ## What keeps the tags and flags -/

@[simp] theorem writeReg_mac (s : State) (r : Reg) (v : Word) : (s.writeReg r v).mac = s.mac := by
  rw [writeReg_shape]

@[simp] theorem countDecode_mac (s : State) (n : Nat) : (s.countDecode n).mac = s.mac := by
  rcases countDecode_cases s n with ⟨code, -, hs⟩ | ⟨f, pad, -, hs⟩ <;> rw [hs]

@[simp] theorem deliver_mac (s : State) (f : Frame) (ack : Bool) (time : Word) :
    (s.deliver f ack time).mac = s.mac := by
  rw [deliver_eq]

/-! ## The rows of the transition table (R270) -/

/-- `STATE.TX` stays, or moves along a row of the table for the operation. -/
def MovesTx (i : Instr) (x y : TxSub) : Prop := y = x ∨ (x, y) ∈ txMoves i

theorem tickStart_tx {s u : State} (h : tickStart s = .next u) : u.mac.tx = .none ∨ u.mac.tx = .csmaCa := by
  obtain ⟨b, v, -, -, rfl | ⟨w, -, rfl⟩⟩ := tickStart_cases s u h
  · exact .inl rfl
  · exact .inr rfl

theorem tickWaitSend_tx {s u : State} (h : tickWaitSend s = .next u) :
    u.mac.tx = s.mac.tx ∨ u.mac.tx = .waitConfirm := by
  rcases tickWaitSend_cases s u h with ⟨-, rfl⟩ | ⟨time, sense, -, rfl⟩
  · exact .inl rfl
  · exact .inr rfl

theorem tickFailCsmaCa_tx (s : State) :
    (tickFailCsmaCa s).mac.tx = .none ∨ (tickFailCsmaCa s).mac.tx = .csmaCa ∨
      (tickFailCsmaCa s).mac.tx = .waitSend := by
  unfold tickFailCsmaCa
  split
  · exact .inl rfl
  · split
    · exact .inr (.inl rfl)
    · exact .inr (.inr rfl)

theorem tickWaitAck_tx (s : State) :
    (tickWaitAck s).mac.tx = s.mac.tx ∨ (tickWaitAck s).mac.tx = .bigFail := by
  unfold tickWaitAck
  split
  · exact .inr rfl
  · exact .inl rfl

theorem tickSendOk_tx (s : State) : (tickSendOk s).mac.tx = .none ∨ (tickSendOk s).mac.tx = .waitSend := by
  rcases tickSendOk_cases s with h | h | ⟨w, -, h⟩ | h <;> rw [h]
  · exact .inl rfl
  · exact .inl rfl
  · exact .inr rfl
  · exact .inl rfl

theorem tickLittleFail_tx (s : State) :
    (tickLittleFail s).mac.tx = .none ∨ (tickLittleFail s).mac.tx = .waitSend := by
  unfold tickLittleFail
  split
  · exact .inl rfl
  · exact .inr rfl

theorem tickBigFail_tx (s : State) : (tickBigFail s).mac.tx = .none ∨ (tickBigFail s).mac.tx = .csmaCa := by
  rcases tickBigFail_cases s with h | ⟨v, -, h | ⟨w, -, h⟩⟩ <;> rw [h]
  · exact .inl rfl
  · exact .inl rfl
  · exact .inr rfl

theorem txTick_movesTx {s u : State} (h : txTick s = .next u) : MovesTx .poll s.mac.tx u.mac.tx := by
  unfold txTick at h
  rcases hx : s.mac.tx <;> rw [hx] at h <;> dsimp only at h
  case start => rcases tickStart_tx h with hu | hu <;> rw [hu] <;> exact .inr (by decide)
  case waitSend =>
    rcases tickWaitSend_tx h with hu | hu <;> rw [hu]
    · exact .inl hx
    · exact .inr (by decide)
  all_goals obtain rfl := Host.Outcome.next.inj h
  case none | waitConfirm => exact .inl hx
  case csmaCa => exact .inr (by decide : (TxSub.csmaCa, TxSub.waitSend) ∈ txMoves .poll)
  case failCsmaCa => rcases tickFailCsmaCa_tx s with hu | hu | hu <;> rw [hu] <;> exact .inr (by decide)
  case waitAck =>
    rcases tickWaitAck_tx s with hu | hu <;> rw [hu]
    · exact .inl hx
    · exact .inr (by decide)
  case sendOk => rcases tickSendOk_tx s with hu | hu <;> rw [hu] <;> exact .inr (by decide)
  case littleFail => rcases tickLittleFail_tx s with hu | hu <;> rw [hu] <;> exact .inr (by decide)
  case bigFail => rcases tickBigFail_tx s with hu | hu <;> rw [hu] <;> exact .inr (by decide)

theorem confirmSuccess_tx (s : State) (time : Word) :
    (s.confirmSuccess time).mac.tx = .waitAck ∨ (s.confirmSuccess time).mac.tx = .sendOk := by
  unfold State.confirmSuccess
  dsimp only
  split
  · exact .inl rfl
  · exact .inr rfl

/-- The rows of `TXCFM` start in `WAIT_CONFIRM`; a stray one moves nothing (R249). -/
theorem txConfirmed_movesTx (s : State) (status : PhyStatus) (time : Word) :
    MovesTx (.txcfm status time) s.mac.tx (s.txConfirmed status time).mac.tx := by
  unfold State.txConfirmed
  split
  · exact .inl rfl
  · rename_i hx
    rw [not_not] at hx
    rw [hx]
    cases status with
    | success =>
      rcases confirmSuccess_tx s.clearComp time with hu | hu <;> dsimp only <;> rw [hu]
      · exact .inr (.head _)
      · exact .inr (.tail _ (.head _))
    | busyChannelSense | busyOwnRx | busyOwnTx | unknown => exact .inr (.head _)

/-- An interrupted schedule is the one row of `RXIND` (R261). -/
theorem received_movesTx (s : State) (r : DecodeResult) (len : BitVec 12) (ack : Bool) (time : Word) :
    MovesTx (.rxind len ack time) s.mac.tx (s.received r ack time).mac.tx := by
  cases r with
  | reject code => exact .inl rfl
  | ok f pad =>
    show MovesTx _ _ (s.compensate.interrupt.deliver f ack time).mac.tx
    rw [deliver_mac, State.interrupt]
    split
    · rename_i hx
      have hx : s.mac.tx = .waitConfirm := hx
      rw [hx]
      exact .inr (.head _)
    · exact .inl rfl

/-- The rows of `ACKIND` start in `WAIT_ACK`, for the frame on air (R268). -/
theorem acknowledged_movesTx (s : State) (d : Delim) (sub : Bool) (fcs : BitVec 16) :
    MovesTx (.ackind d sub fcs) s.mac.tx (s.acknowledged d sub fcs).mac.tx := by
  unfold State.acknowledged
  dsimp only
  split
  · rename_i hmine
    have hx : s.mac.tx = .waitAck := of_decide_eq_true (Bool.and_eq_true_iff.1 hmine).1
    rw [State.setTx_mac, hx]
    cases d with
    | ack | nack => exact .inr (.head _)
    | other => exact .inl rfl
  · exact .inl rfl

theorem Does.movesTx {i : Instr} {s t : State} (h : Does i s t) (hreset : ∀ clr, i ≠ .reset clr) :
    MovesTx i s.mac.tx t.mac.tx := by
  cases i with
  | reset clr => exact absurd rfl (hreset clr)
  | txreq =>
    obtain ⟨hx, -, rfl⟩ := h
    rw [hx]
    exact .inr (.head _)
  | poll =>
    obtain ⟨u, hu, rfl⟩ := h
    rw [← occTick_tx s]
    exact (txTick_movesTx hu :)
  | txcfm status time => obtain rfl := h; exact txConfirmed_movesTx s status time
  | rxind len ack time =>
    obtain rfl := h
    rw [← countDecode_mac s len.toNat]
    exact received_movesTx _ _ len ack time
  | ackind d sub fcs => obtain rfl := h; exact acknowledged_movesTx s d sub fcs
  | get => obtain rfl := h; exact .inl rfl
  | set n v =>
    obtain ⟨-, r, -, -, -, rfl⟩ := h
    exact .inl (congrArg MacBank.tx (writeReg_mac s r v))
  | decode len =>
    obtain ⟨-, r, rfl⟩ := h
    exact .inl (congrArg MacBank.tx (countDecode_mac s _))
  | nextseg => obtain ⟨-, w, hw, rfl⟩ := h; exact .inl hw.tx_eq
  | encode => obtain ⟨-, b, r, -, rfl⟩ := h; exact .inl rfl
  | phycalc | fallback => obtain ⟨-, b, r, rfl⟩ := h; exact .inl rfl
  | crc16 | hdrlen | backoff | accfail | accok | compensate | segdone => obtain ⟨-, r, rfl⟩ := h; exact .inl rfl

/-- Settles O52: an operation answers an error and keeps the sub-state, is a `RESET`, or does what its rows allow. -/
theorem transitionTable : Obligations.TransitionTable := by
  intro i s t h
  rcases exec_cases i s t h with ⟨c, -, rfl⟩ | hd
  · exact .inl rfl
  · by_cases hreset : ∃ clr, i = .reset clr
    · obtain ⟨clr, rfl⟩ := hreset
      obtain rfl := hd
      exact .inr (.inr ⟨⟨clr, rfl⟩, rfl⟩)
    · rcases hd.movesTx (not_exists.1 hreset) with hkept | hrow
      · exact .inl hkept
      · exact .inr (.inl hrow)

/-! ## The confirms of one step (R271) -/

theorem nextIsReset_iff {s : State} {now : Word} {rnd : BitVec 16} {c : Command} {rest : List Input} {i : Instr}
    (hi : s.inputs = .command now rnd c :: rest) (hd : Sys2Proof.decode c = some i) :
    nextIsReset s = true ↔ ∃ clr, i = .reset clr := by
  unfold nextIsReset
  rw [hi]
  dsimp only
  rw [hd]
  cases i <;> simp

/-- A step of an active request emits a `TX_CONFIRM` exactly when it ends the request and is no `RESET`. -/
theorem step_confirms {s t : State} (hactive : s.mac.tx ≠ .none) (h : step s = .next t) :
    countBy Effect.isTxConfirm t.effects = if t.mac.tx = .none ∧ nextIsReset s = false then 1 else 0 := by
  have hquiet {t : State} (htx : t.mac.tx = s.mac.tx) (he : t.effects = []) :
      countBy Effect.isTxConfirm t.effects = if t.mac.tx = .none ∧ nextIsReset s = false then 1 else 0 := by
    rw [he, if_neg fun hend => hactive (htx ▸ hend.1)]
    rfl
  rcases step_cases s t h with
    ⟨-, rfl⟩ | ⟨off, b, rest, -, rfl⟩ | ⟨off, b, rest, -, rfl⟩ | ⟨now, rnd, c, rest, hin, ⟨-, rfl⟩ | ⟨i, hd, hi⟩⟩
  · exact hquiet rfl rfl
  · exact hquiet rfl rfl
  · exact hquiet rfl rfl
  · exact hquiet rfl rfl
  · have hnew : newEffects ((s.takeTurn rest).sample now rnd) t = t.effects := rfl
    obtain ⟨hone, hzero⟩ := confirmAtTheEnd i _ t hi
    rw [hnew] at hone hzero
    split
    · rename_i hend
      refine hone hactive hend.1 fun clr hclr => ?_
      rw [(nextIsReset_iff hin hd).2 ⟨clr, hclr⟩] at hend
      exact absurd hend.2 (by decide)
    · rename_i hend
      apply hzero
      by_cases htx : t.mac.tx = .none
      · have hreset : nextIsReset s = true := by simpa [htx] using hend
        exact .inr (.inr ((nextIsReset_iff hin hd).1 hreset))
      · exact .inr (.inl htx)

/-! ## The confirms of a run (R271) -/

theorem stateAfter_succ {s w : State} (h : step s = .next w) (n : Nat) : stateAfter (n + 1) s = stateAfter n w := by
  rw [stateAfter, h]

theorem confirmCount_succ {s w : State} (h : step s = .next w) (n : Nat) :
    confirmCount (n + 1) s = countBy Effect.isTxConfirm w.effects + confirmCount n w := by
  rw [confirmCount, h]

theorem stateAfter_succ_eq_some {s u : State} {n : Nat} (h : stateAfter (n + 1) s = some u) :
    ∃ w, step s = .next w ∧ stateAfter n w = some u := by
  rcases hs : step s with w | r | r
  · exact ⟨w, rfl, stateAfter_succ hs n ▸ h⟩
  · rw [stateAfter, hs] at h
    cases h
  · rw [stateAfter, hs] at h
    cases h

/-- The step after a run adds what it emits to the count of the run. -/
theorem confirmCount_snoc {n : Nat} {s u t : State} (hu : stateAfter n s = some u) (ht : step u = .next t) :
    confirmCount (n + 1) s = confirmCount n s + countBy Effect.isTxConfirm t.effects := by
  induction n generalizing s with
  | zero =>
    obtain rfl := Option.some.inj hu
    rw [confirmCount_succ ht]
    exact Nat.add_comm _ _
  | succ n ih =>
    obtain ⟨w, hw, hu⟩ := stateAfter_succ_eq_some hu
    rw [confirmCount_succ hw, ih hu, confirmCount_succ hw, Nat.add_assoc]

/-- While the request is active no step confirms. -/
theorem confirmCount_of_active {n : Nat} {s : State}
    (h : ∀ k w, k ≤ n → stateAfter k s = some w → w.mac.tx ≠ .none) : confirmCount n s = 0 := by
  induction n generalizing s with
  | zero => rfl
  | succ n ih =>
    have hs : s.mac.tx ≠ .none := h 0 s (Nat.zero_le _) rfl
    rcases hstep : step s with w | r | r
    · have hw : w.mac.tx ≠ .none := h 1 w (Nat.succ_le_succ (Nat.zero_le n)) (stateAfter_succ hstep 0)
      have hrest : confirmCount n w = 0 :=
        ih fun k v hk hv => h (k + 1) v (Nat.succ_le_succ hk) ((stateAfter_succ hstep k).trans hv)
      rw [confirmCount_succ hstep, hrest, step_confirms hs hstep, if_neg fun hend => hw hend.1]
    · rw [confirmCount, hstep]
    · rw [confirmCount, hstep]

theorem txreq_effects {s t : State} (h : exec .txreq s = .next t) : t.effects = s.effects := by
  rcases exec_cases .txreq s t h with ⟨c, -, rfl⟩ | ⟨-, -, rfl⟩
  · rfl
  · rfl

/-- Settles O54: by `step_confirms` the steps that keep the request emit no confirm, and the step that ends it one. -/
theorem oneConfirmPerRequest : Obligations.OneConfirmPerRequest := by
  refine ⟨fun n s u t _ hrun hu ht hend => ?_, fun s t => txreq_effects⟩
  have hbefore : confirmCount n s = 0 := confirmCount_of_active hrun
  have hlast : countBy Effect.isTxConfirm t.effects = (if nextIsReset u then 0 else 1) := by
    rw [step_confirms (hrun n u (Nat.le_refl n) hu) ht]
    cases nextIsReset u <;> simp [hend]
  exact ⟨hbefore, hlast, by rw [confirmCount_snoc hu ht, hbefore, hlast, Nat.zero_add]⟩

/-! ## The conclusion of a request (R225) -/

/-- `STATE` apart, no register reads what a conclusion writes. -/
theorem readReg_conclude (s : State) (o : TxOutcome) {r : Reg} (hr : r ≠ .status .state) :
    (s.conclude o).readReg r = s.readReg r := by
  cases r with
  | status r =>
    cases r with
    | state => exact absurd rfl hr
    | _ => rfl
  | cfg | cnt | snap | txd | txfr | rxfr | rx => rfl

/-- Settles O43: of `STATE` the conclusion leaves the occupancy tag and `MORE_FRAG`. -/
theorem concludeOperation : Obligations.ConcludeOperation := by
  intro s o
  refine ⟨rfl, rfl, ?_, fun r hr => readReg_conclude s o hr, fun _ => rfl, fun _ => rfl, fun _ => rfl⟩
  rw [readReg_state_toNat, stateBits_toNat]
  simp [txBits]

/-! ## The occupancy machine (R221) -/

theorem occTick_untimed {s : State} (h : timedExit s.cfg s.mac.occ = none) : s.occTick = s := by
  rw [State.occTick, h]

theorem occTick_timed {s : State} {d : Word} {u : Occ} (h : timedExit s.cfg s.mac.occ = some (d, u)) :
    s.occTick = if d ≤ elapsed s.now s.mac.occEntered then s.enterOcc u else s := by
  rw [State.occTick, h]

/-- Settles O35: every state but `IDLE` has a timed exit, taken by the comparison of its duration with the time
elapsed. -/
theorem occupancyTick : Obligations.OccupancyTick := by
  intro s e he
  refine ⟨fun hidle => occTick_untimed (by rw [hidle]; rfl), fun o u d ho hrow => ?_⟩
  obtain ⟨w, hexit, rfl⟩ : ∃ w : Word, timedExit s.cfg s.mac.occ = some (w, u) ∧ w.toNat = d := by
    rw [ho]
    rcases hrow with ⟨rfl, rfl, rfl⟩ | ⟨rfl, rfl, rfl⟩ | ⟨rfl, rfl, rfl⟩ | ⟨rfl, rfl, rfl⟩ | ⟨rfl, rfl, rfl⟩
    · exact ⟨_, rfl, rfl⟩
    · exact ⟨_, rfl, rfl⟩
    · exact ⟨_, rfl, rfl⟩
    · exact ⟨_, rfl, rfl⟩
    · exact ⟨_, rfl, ackWait_toNat s.cfg⟩
  have hdue : w ≤ elapsed s.now s.mac.occEntered ↔ w.toNat ≤ e := by
    rw [BitVec.le_def, elapsed_toNat, he]
  rw [occTick_timed hexit]
  exact ⟨fun hlt => if_neg fun hle => Nat.not_le.2 hlt (hdue.1 hle), fun hle => if_pos (hdue.2 hle)⟩

/-! ## `POLL` with nothing to transmit (R224, R240) -/

theorem txTick_still {s : State} (hx : s.mac.tx = .none ∨ s.mac.tx = .waitConfirm) : txTick s = .next s := by
  unfold txTick
  rcases hx with hx | hx <;> rw [hx]

/-- Settles O36: the transmit machine does nothing, and `STATE` is answered as the occupancy machine leaves it. -/
theorem pollWithoutTransmit : Obligations.PollWithoutTransmit := by
  intro s hx
  refine ⟨s.occTick.pollAnswer, poll_next s _ (txTick_still (by rwa [occTick_tx])), ?_⟩
  rw [← pollAnswer_response]
  obtain ⟨o, w, ho⟩ := occTick_shape s
  rw [ho]
  rfl

/-! ## `POLL` in `CSMA_CA` (R226, R231) -/

theorem poll_csmaCa {s : State} (hx : s.mac.tx = .csmaCa) :
    exec .poll s = .next (tickCsmaCa s.occTick).pollAnswer := by
  apply poll_next
  rw [txTick, occTick_tx, hx]

theorem addrModeOf_eq_short_iff (b : BitVec 2) : addrModeOf b = .short ↔ b = 2#2 := by
  revert b
  decide

theorem isBroadcast_iff (t : TxdBank) :
    t.isBroadcast = true ↔ t.ctrl.extractLsb' 8 2 = 2#2 ∧ t.dstLo.extractLsb' 0 16 = 0xFFFF#16 := by
  rw [TxdBank.isBroadcast, Bool.and_eq_true, decide_eq_true_iff, decide_eq_true_iff, TxdBank.dstMode,
    addrModeOf_eq_short_iff]
  rfl

/-- Settles O38: the drawn backoff reads the descriptor alone of what the obligation spells out. -/
theorem pollCsmaCa : Obligations.PollCsmaCa := by
  intro s bcast hx hb
  obtain rfl : s.txd.isBroadcast = bcast := Bool.eq_iff_iff.2 ((isBroadcast_iff s.txd).trans hb.symm)
  rw [poll_csmaCa hx]
  obtain ⟨o, w, ho⟩ := occTick_shape s
  rw [ho]
  rfl

/-! ## `POLL` in `WAIT_SEND` (R232 to R236) -/

theorem txTick_waitSend {s : State} (hx : s.mac.tx = .waitSend) : txTick s = tickWaitSend s := by
  rw [txTick, hx]

theorem tickWaitSend_waits {s : State} (h : s.sendTime = none) : tickWaitSend s = .next s := by
  rw [tickWaitSend, h]

theorem tickWaitSend_sends {s : State} {time : Word} {sense : Bool} (h : s.sendTime = some (time, sense))
    (hlen : s.sess.txLen.toNat ≤ 2048) :
    tickWaitSend s = .next (((s.emit (s.txReqEffect time sense)).setImmediate false).setTx .waitConfirm) := by
  rw [tickWaitSend, h]
  exact if_neg (Nat.not_lt.2 hlen)

theorem sendTime_immediate {s : State} (hi : s.mac.immediate = true) : s.sendTime = some (s.now, false) :=
  if_pos hi

section

variable {s : State} (hi : s.mac.immediate = false)
include hi

theorem sendTime_contending :
    s.sendTime =
      if s.mac.occ = .idle then some (s.now + s.csma.periodWait + s.csma.backoff, true)
      else if s.mac.occ = .cp ∧
          s.cfg.leadTime.toNat ≤ s.cfg.cpTime.toNat - (elapsed s.now s.mac.occEntered).toNat then
        some (if isBefore (s.mac.occEntered + s.csma.periodWait + s.csma.backoff) s.now then s.now
          else s.mac.occEntered + s.csma.periodWait + s.csma.backoff, true)
      else none :=
  if_neg (by simp [hi])

theorem sendTime_idle (ho : s.mac.occ = .idle) :
    s.sendTime = some (s.now + s.csma.periodWait + s.csma.backoff, true) :=
  (sendTime_contending hi).trans (if_pos ho)

theorem sendTime_cp (ho : s.mac.occ = .cp)
    (hl : s.cfg.leadTime.toNat + (elapsed s.now s.mac.occEntered).toNat ≤ s.cfg.cpTime.toNat) :
    s.sendTime =
      some (if isBefore (s.mac.occEntered + s.csma.periodWait + s.csma.backoff) s.now then s.now
        else s.mac.occEntered + s.csma.periodWait + s.csma.backoff, true) := by
  rw [sendTime_contending hi, if_neg (by simp [ho]), if_pos ⟨ho, by omega⟩]

end

section

variable {s : State} (hx : s.mac.tx = .waitSend)
include hx

theorem poll_waitSend_waits (ht : s.occTick.sendTime = none) : exec .poll s = .next s.occTick.pollAnswer := by
  apply poll_next
  rw [txTick_waitSend ((occTick_tx s).trans hx), tickWaitSend_waits ht]

theorem poll_waitSend_sends {time : Word} {sense : Bool} (ht : s.occTick.sendTime = some (time, sense))
    (hlen : s.sess.txLen.toNat ≤ 2048) :
    exec .poll s =
      .next
        ({ s.occTick with
          effects :=
            s.effects ++
              [.phyTxReq s.sess.txLen (s.txd.ctrl.getLsbD 0) sense s.mac.moreFrag time
                (Memory.readRun s.txbuf 0 s.sess.txLen.toNat)]
          mac := { s.occTick.mac with immediate := false, tx := .waitConfirm } } : State).pollAnswer := by
  apply poll_next
  rw [txTick_waitSend ((occTick_tx s).trans hx), tickWaitSend_sends ht (by rwa [occTick_sess])]
  obtain ⟨o, w, ho⟩ := occTick_shape s
  rw [ho]
  rfl

end

/-- Settles O39: `sendTime` of the state after the occupancy transition decides when the frame is sent, or that the
`POLL` waits. -/
theorem pollWaitSend : Obligations.PollWaitSend := by
  rintro s u e hx rfl he send hsend
  rw [← elapsed_toNat] at he
  have hsent {time : Word} {sense : Bool} (hlen : s.sess.txLen.toNat ≤ 2048)
      (ht : s.occTick.sendTime = some (time, sense)) : exec .poll s = .next (send time sense).pollAnswer := by
    rw [hsend, poll_waitSend_sends hx ht hlen]
  refine ⟨fun hlen => ⟨fun hi => hsent hlen ?_, fun hi hidle => hsent hlen ?_, fun hi hcp hlead => ?_⟩,
    fun hi hidle hcp => poll_waitSend_waits hx (not_not.1 fun hsends => ?_)⟩
  · rw [sendTime_immediate (by rwa [occTick_immediate]), occTick_now]
  · rw [sendTime_idle (by rwa [occTick_immediate]) hidle, occTick_now, occTick_csma]
  · have htime := sendTime_cp (by rwa [occTick_immediate]) hcp (by rwa [occTick_cfg, occTick_now, ← he])
    rw [isBefore_eq, occTick_csma, occTick_now] at htime
    refine ⟨fun hpast => hsent hlen ?_, fun hahead => hsent hlen ?_⟩
    · rw [htime, if_pos hpast]
    · rw [htime, if_neg (Bool.eq_false_iff.1 hahead)]
  · rcases (sendTime_occTick_ne_none s).1 hsends with h | h | ⟨h, hlead⟩
    · exact absurd h (by simp [hi])
    · exact hidle h
    · exact Nat.not_lt.2 hlead (he ▸ hcp h)

/-! ## `POLL` in `FAIL_CSMA_CA`, `WAIT_ACK` and `LITTLE_FAIL` (R241, R242, R253) -/

theorem poll_failCsmaCa {s : State} (hx : s.mac.tx = .failCsmaCa) :
    exec .poll s = .next (tickFailCsmaCa s.occTick).pollAnswer := by
  apply poll_next
  rw [txTick, occTick_tx, hx]

theorem poll_waitAck {s : State} (hx : s.mac.tx = .waitAck) :
    exec .poll s = .next (tickWaitAck s.occTick).pollAnswer := by
  apply poll_next
  rw [txTick, occTick_tx, hx]

theorem poll_littleFail {s : State} (hx : s.mac.tx = .littleFail) :
    exec .poll s = .next (tickLittleFail s.occTick).pollAnswer := by
  apply poll_next
  rw [txTick, occTick_tx, hx]

theorem exhausted_iff (k : CsmaBank) (c : CfgBank) :
    k.exhausted c = true ↔ c.maxCsmaBackoffs.toNat ≤ k.nb.toNat :=
  decide_eq_true_iff

theorem tickFailCsmaCa_exhausted {s : State} (h : s.cfg.maxCsmaBackoffs.toNat ≤ s.csma.nb.toNat) :
    tickFailCsmaCa s = s.conclude .channelAccessFailure :=
  if_pos ((exhausted_iff s.csma s.cfg).2 h)

theorem tickFailCsmaCa_retries {s : State} (h : s.csma.nb.toNat < s.cfg.maxCsmaBackoffs.toNat) :
    tickFailCsmaCa s = s.setTx (if s.txd.ackReq then .csmaCa else .waitSend) := by
  rw [tickFailCsmaCa, if_neg fun hfull => Nat.not_lt.2 ((exhausted_iff s.csma s.cfg).1 hfull) h]
  exact (apply_ite s.setTx _ _ _).symm

/-- The acknowledgement wait runs from `TX_ENTERED`, modulo 2^32 (R242). -/
theorem tickWaitAck_eq {s : State} (hx : s.mac.tx = .waitAck) :
    tickWaitAck s =
      s.setTx
        (if (s.cfg.rifsTime.toNat + s.cfg.ackTime.toNat + s.cfg.cifsTime.toNat) % 2 ^ 32 ≤
            (elapsed s.now s.mac.txEntered).toNat then .bigFail
          else .waitAck) := by
  have hstay : s.setTx .waitAck = s := by
    rw [← hx]
    rfl
  rw [← ackWait_toNat, apply_ite s.setTx, hstay]
  rfl

theorem tickLittleFail_exhausted {s : State} (h : s.sess.retriesLeft = 0#8) :
    tickLittleFail s = s.conclude .noAck :=
  if_pos h

/-- A budget that is not empty is spent without wrapping. -/
theorem sub_one_eq_ofNat {v : BitVec 8} (h : v ≠ 0#8) : v - 1#8 = BitVec.ofNat 8 (v.toNat - 1) := by
  apply BitVec.eq_of_toNat_eq
  have hlt := v.isLt
  have hpos : v.toNat ≠ 0 := fun hzero => h (BitVec.eq_of_toNat_eq hzero)
  rw [BitVec.toNat_sub, BitVec.toNat_ofNat, BitVec.toNat_ofNat]
  omega

theorem tickLittleFail_retries {s : State} (h : s.sess.retriesLeft ≠ 0#8) :
    tickLittleFail s =
      ((s.setRetries (BitVec.ofNat 8 (s.sess.retriesLeft.toNat - 1))).setImmediate false).setTx .waitSend := by
  rw [tickLittleFail, if_neg h, sub_one_eq_ofNat h]

/-- Settles O40: what the three transitions read, the occupancy transition before them keeps. -/
theorem pollRetryStates : Obligations.PollRetryStates := by
  rintro s u e rfl he
  rw [← elapsed_toNat, ← occTick_now, ← occTick_txEntered] at he
  refine ⟨fun hx => ?_, fun hx => ?_, fun hx => ?_⟩
  · rw [poll_failCsmaCa hx, ← occTick_cfg, ← occTick_csma, ← occTick_txd]
    refine ⟨fun hfull => by rw [tickFailCsmaCa_exhausted hfull], fun hroom => ?_⟩
    rw [tickFailCsmaCa_retries hroom]
    rfl
  · rw [poll_waitAck hx, tickWaitAck_eq ((occTick_tx s).trans hx), ← he, ← occTick_cfg s]
    rfl
  · rw [poll_littleFail hx, ← occTick_sess]
    refine ⟨fun hempty => by rw [tickLittleFail_exhausted hempty], fun hleft => ?_⟩
    rw [tickLittleFail_retries hleft]
    rfl

/-! ## The modulation fallback (R256) -/

theorem modBits_toNat_eq_iff (a b : ModType) : (modBits a).toNat = (modBits b).toNat ↔ a = b := by
  cases a <;> cases b <;> decide

theorem modBits_modDown_toNat (t : ModType) : (modBits (modDown t)).toNat = (modBits t).toNat - 1 := by
  cases t <;> rfl

theorem modBits_fallback_toNat (n : BitVec 8) (t : ModType) (r : BitVec 8) :
    (modBits (fallback n t r)).toNat = if r.toNat < n.toNat then 0 else (modBits t).toNat - 1 := by
  unfold fallback
  split
  · rfl
  · exact modBits_modDown_toNat t

theorem fallTo_same (b : SnapBank) : b.fallTo b.modType = b := if_pos rfl

theorem fallTo_of_ne {b : SnapBank} {t : ModType} (h : t ≠ b.modType) :
    b.fallTo t = ({ b with modType := t } : SnapBank).derive :=
  if_neg h

@[simp] theorem fallTo_modType (b : SnapBank) (t : ModType) : (b.fallTo t).modType = t := by
  by_cases h : t = b.modType
  · rw [h, fallTo_same]
  · rw [fallTo_of_ne h]
    rfl

theorem fallback_idle {s : State} (r : BitVec 8) (hidle : s.mac.tx = .none) :
    exec (.fallback r) s =
      .next
        (({ s with snap := s.snap.fallTo (fallback s.cfg.robustBelow s.snap.modType r) } : State).respond .ok
          ((modBits (fallback s.cfg.robustBelow s.snap.modType r)).setWidth 24)) := by
  rw [exec, execFallback, unitOp_idle s _ hidle]

/-- Settles O18: the fallen type is a number by `modBits_fallback_toNat`, and the snapshot falls to it. -/
theorem fallbackOperation : Obligations.FallbackOperation := by
  refine ⟨fun s r hidle => ?_, fun n t r => ?_, by decide, by decide, by decide, by decide⟩
  · generalize hm : fallback s.cfg.robustBelow s.snap.modType r = m
    have htype : (s.snap.fallTo m).modType = m := fallTo_modType s.snap m
    have hnum := modBits_fallback_toNat s.cfg.robustBelow s.snap.modType r
    refine ⟨_, fallback_idle r hidle, ?_⟩
    rw [hm] at hnum ⊢
    dsimp only [State.respond_snap, State.respond_response]
    rw [htype]
    refine ⟨rfl, rfl, hnum, fun hsame => ?_, fun hfell => ?_⟩
    · rw [hsame, fallTo_same]
    · rw [fallTo_of_ne hfell]
      rfl
  · rw [modBits_fallback_toNat]
    split
    · exact Nat.zero_le _
    · exact Nat.sub_le _ _

/-! ## `POLL` in `BIG_FAIL` (R254) -/

/-- The modulation type `BIG_FAIL` goes on with, the retry already spent: a forced one stays (R254, R256). -/
def State.fallenType (s : State) : ModType :=
  if s.txd.force then s.snap.modType else fallback s.cfg.robustBelow s.snap.modType s.sess.retriesLeft

theorem modBits_fallenType_toNat (s : State) :
    (modBits s.fallenType).toNat =
      if s.txd.force then (modBits s.snap.modType).toNat
      else if s.sess.retriesLeft.toNat < s.cfg.robustBelow.toNat then 0 else (modBits s.snap.modType).toNat - 1 := by
  unfold State.fallenType
  split
  · rfl
  · exact modBits_fallback_toNat _ _ _

theorem fallTo_setParams (b : SnapBank) (t : ModType) :
    (b.fallTo t).setParams =
      .phySetParams (BitVec.ofBool b.twoRs ++ BitVec.ofBool b.scheme ++ modBits t) b.toneMap
        (b.toneMask2 ++ b.toneMask1 ++ b.toneMask0) b.gain := by
  by_cases h : t = b.modType
  · rw [h, fallTo_same]
    rfl
  · rw [fallTo_of_ne h]
    rfl

/-- The snapshot falls, and is announced exactly when its type changes (R254). -/
theorem applyFallback_eq (s : State) :
    s.applyFallback =
      { s with
        snap := s.snap.fallTo s.fallenType
        effects :=
          s.effects ++ (if s.fallenType = s.snap.modType then [] else [(s.snap.fallTo s.fallenType).setParams]) } := by
  have hkept (h : s.fallenType = s.snap.modType) :
      s =
        { s with
          snap := s.snap.fallTo s.fallenType
          effects :=
            s.effects ++
              (if s.fallenType = s.snap.modType then [] else [(s.snap.fallTo s.fallenType).setParams]) } := by
    rw [if_pos h, h, fallTo_same, List.append_nil]
  unfold State.applyFallback
  dsimp only
  split
  · rename_i hfalls
    obtain ⟨hforce, hne⟩ := hfalls
    have htype : s.fallenType = fallback s.cfg.robustBelow s.snap.modType s.sess.retriesLeft :=
      if_neg (Bool.eq_false_iff.1 hforce)
    rw [← htype] at hne ⊢
    rw [if_neg hne]
    rfl
  · rename_i hstays
    apply hkept
    unfold State.fallenType
    split
    · rfl
    · rename_i hforce
      exact not_not.1 fun hne => hstays ⟨Bool.eq_false_iff.2 hforce, hne⟩

theorem poll_bigFail {s : State} (hx : s.mac.tx = .bigFail) :
    exec .poll s = .next (tickBigFail s.occTick).pollAnswer := by
  apply poll_next
  rw [txTick, occTick_tx, hx]

theorem tickBigFail_exhausted {s : State} (h : s.sess.retriesLeft = 0#8) : tickBigFail s = s.conclude .noAck :=
  if_pos h

theorem tickBigFail_retries {s : State} (h : s.sess.retriesLeft ≠ 0#8) :
    tickBigFail s =
      (s.setRetries (BitVec.ofNat 8 (s.sess.retriesLeft.toNat - 1))).applyFallback.buildThen
        (fun t => (t.setImmediate false).setTx .csmaCa) := by
  rw [tickBigFail, if_neg h, sub_one_eq_ofNat h]

/-- Settles O42: with the retry spent `v` is the state after the fallback, from which the segment is rebuilt. -/
theorem pollBigFail : Obligations.PollBigFail := by
  intro s hx
  rw [poll_bigFail hx, ← occTick_sess, ← occTick_snap, ← occTick_txd, ← occTick_cfg, ← occTick_effects]
  generalize s.occTick = p
  refine ⟨fun hempty => by rw [tickBigFail_exhausted hempty], fun hleft r m v hr hm hv => ?_⟩
  have htype : m = (p.setRetries r).fallenType := by
    rw [← modBits_toNat_eq_iff, hm, modBits_fallenType_toNat]
    rfl
  have hfallen : v = (p.setRetries r).applyFallback := by
    rw [applyFallback_eq, ← htype, fallTo_setParams, hv]
    rfl
  rw [tickBigFail_retries hleft, ← hr, ← hfallen, State.buildThen]
  rcases v.nextSeg with _ | w
  · rfl
  · rfl

/-! ## What one `POLL` emits (R220) -/

/-- What the transition out of sub-state `x` can emit; two effects are an announced snapshot and the confirm of a
segment that could not be built. -/
inductive TransitionEmits (x : TxSub) : List Effect → Prop
  | nothing : TransitionEmits x []
  | sent (s : State) (time : Word) (sense : Bool) : TransitionEmits x [s.txReqEffect time sense]
  | announced (b : SnapBank) : TransitionEmits x [b.setParams]
  | concluded (o : TxOutcome) (m : ModType) (scheme : Bool) : TransitionEmits x [.txConfirm o m scheme]
  | announcedConcluded (hx : x = .start ∨ x = .bigFail) (b : SnapBank) (o : TxOutcome) (m : ModType) (scheme : Bool) :
      TransitionEmits x [b.setParams, .txConfirm o m scheme]

/-- `t` holds the effects of `s` and then those of a transition out of `x`. -/
def Emits (x : TxSub) (s t : State) : Prop := ∃ l, t.effects = s.effects ++ l ∧ TransitionEmits x l

theorem emits_of_effects_eq {x : TxSub} {s t : State} (h : t.effects = s.effects) : Emits x s t :=
  ⟨[], by rw [h, List.append_nil], .nothing⟩

theorem emits_conclude {x : TxSub} {s v : State} (h : v.effects = s.effects) (o : TxOutcome) :
    Emits x s (v.conclude o) :=
  ⟨_, by rw [State.conclude_effects, h], .concluded o _ _⟩

/-- `v` holds the effects of `s` and at most an announced snapshot. -/
def AnnouncesAtMost (s v : State) : Prop :=
  v.effects = s.effects ∨ ∃ b : SnapBank, v.effects = s.effects ++ [b.setParams]

theorem AnnouncesAtMost.emits {x : TxSub} {s v t : State} (h : AnnouncesAtMost s v) (ht : t.effects = v.effects) :
    Emits x s t := by
  rcases h with hv | ⟨b, hv⟩
  · exact emits_of_effects_eq (ht.trans hv)
  · exact ⟨_, ht.trans hv, .announced b⟩

theorem AnnouncesAtMost.emits_conclude {x : TxSub} {s v : State} (h : AnnouncesAtMost s v)
    (hx : x = .start ∨ x = .bigFail) (o : TxOutcome) : Emits x s (v.conclude o) := by
  rcases h with hv | ⟨b, hv⟩
  · exact Machine.emits_conclude hv o
  · exact ⟨_, by rw [State.conclude_effects, hv, List.append_assoc]; rfl, .announcedConcluded hx b o _ _⟩

theorem announcesAtMost_applyFallback (s : State) : AnnouncesAtMost s s.applyFallback := by
  rcases applyFallback_shape s with h | ⟨b, h⟩ <;> rw [h]
  · exact .inl rfl
  · exact .inr ⟨b, rfl⟩

theorem Built.effects_eq {s w : State} (h : Built s w) : w.effects = s.effects := by
  obtain ⟨b, -, rfl⟩ := h
  rfl

theorem tickStart_emits {s u : State} (h : tickStart s = .next u) : Emits .start s u := by
  obtain ⟨b, v, -, hv, hu⟩ := tickStart_cases s u h
  have hannounced : AnnouncesAtMost s v := .inr ⟨b, by rw [hv]; rfl⟩
  rcases hu with rfl | ⟨w, hw, rfl⟩
  · exact hannounced.emits_conclude (.inl rfl) _
  · exact hannounced.emits hw.effects_eq

theorem tickWaitSend_emits {s u : State} {x : TxSub} (h : tickWaitSend s = .next u) : Emits x s u := by
  rcases tickWaitSend_cases s u h with ⟨-, rfl⟩ | ⟨time, sense, -, rfl⟩
  · exact emits_of_effects_eq rfl
  · exact ⟨_, rfl, .sent s time sense⟩

theorem tickFailCsmaCa_emits (s : State) (x : TxSub) : Emits x s (tickFailCsmaCa s) := by
  unfold tickFailCsmaCa
  split
  · exact emits_conclude rfl _
  · split
    · exact emits_of_effects_eq rfl
    · exact emits_of_effects_eq rfl

theorem tickWaitAck_emits (s : State) (x : TxSub) : Emits x s (tickWaitAck s) := by
  unfold tickWaitAck
  split
  · exact emits_of_effects_eq rfl
  · exact emits_of_effects_eq rfl

theorem tickSendOk_emits (s : State) (x : TxSub) : Emits x s (tickSendOk s) := by
  rcases tickSendOk_cases s with h | h | ⟨w, hw, h⟩ | h <;> rw [h]
  · exact emits_conclude rfl _
  · exact emits_conclude rfl _
  · exact emits_of_effects_eq hw.effects_eq
  · exact emits_conclude rfl _

theorem tickLittleFail_emits (s : State) (x : TxSub) : Emits x s (tickLittleFail s) := by
  unfold tickLittleFail
  split
  · exact emits_conclude rfl _
  · exact emits_of_effects_eq rfl

theorem tickBigFail_emits (s : State) : Emits .bigFail s (tickBigFail s) := by
  rcases tickBigFail_cases s with h | ⟨v, hv, h⟩
  · rw [h]
    exact emits_conclude rfl _
  · have hannounced : AnnouncesAtMost s v := hv ▸ announcesAtMost_applyFallback _
    rcases h with h | ⟨w, hw, h⟩ <;> rw [h]
    · exact hannounced.emits_conclude (.inr rfl) _
    · exact hannounced.emits hw.effects_eq

theorem txTick_emits {s u : State} (h : txTick s = .next u) : Emits s.mac.tx s u := by
  unfold txTick at h
  rcases hx : s.mac.tx <;> rw [hx] at h <;> dsimp only at h
  case start => exact tickStart_emits h
  case waitSend => exact tickWaitSend_emits h
  all_goals obtain rfl := Host.Outcome.next.inj h
  case none | csmaCa | waitConfirm => exact emits_of_effects_eq rfl
  case failCsmaCa => exact tickFailCsmaCa_emits s _
  case waitAck => exact tickWaitAck_emits s _
  case sendOk => exact tickSendOk_emits s _
  case littleFail => exact tickLittleFail_emits s _
  case bigFail => exact tickBigFail_emits s

theorem poll_emits {s t : State} (h : exec .poll s = .next t) : Emits s.mac.tx s t := by
  obtain ⟨u, hu, rfl⟩ := poll_cases s t h
  obtain ⟨l, hl, hemits⟩ := txTick_emits hu
  rw [occTick_effects] at hl
  rw [occTick_tx] at hemits
  exact ⟨l, hl, hemits⟩

/-- Settles O45: each list of `TransitionEmits` is counted. -/
theorem pollEmissions : Obligations.PollEmissions := by
  intro s t h
  obtain ⟨l, hl, hemits⟩ := poll_emits h
  have hnew : newEffects s t = l := by rw [newEffects, hl, List.drop_left]
  rw [hnew]
  refine ⟨hl, ?_⟩
  cases hemits with
  | nothing => exact ⟨Nat.zero_le 1, Nat.zero_le 1, Nat.zero_le 1, rfl, nofun⟩
  | sent => exact ⟨Nat.le_refl 1, Nat.zero_le 1, Nat.zero_le 1, rfl, fun hone => absurd hone (Nat.lt_irrefl 1)⟩
  | announced => exact ⟨Nat.zero_le 1, Nat.le_refl 1, Nat.zero_le 1, rfl, fun hone => absurd hone (Nat.lt_irrefl 1)⟩
  | concluded => exact ⟨Nat.zero_le 1, Nat.zero_le 1, Nat.le_refl 1, rfl, fun hone => absurd hone (Nat.lt_irrefl 1)⟩
  | announcedConcluded hx => exact ⟨Nat.zero_le 1, Nat.le_refl 1, Nat.le_refl 1, rfl, fun _ => hx⟩

/-! ## `TXCFM` (R244 to R249) -/

theorem txcfm_next (s : State) (st : PhyStatus) (time : Word) :
    exec (.txcfm st time) s = .next ((s.txConfirmed st time).respond .ok 0#24) := rfl

theorem txConfirmed_stray {s : State} (hx : s.mac.tx ≠ .waitConfirm) (st : PhyStatus) (time : Word) :
    s.txConfirmed st time = s.enterOcc .eifs :=
  if_pos hx

section

variable {s : State} (hx : s.mac.tx = .waitConfirm)
include hx

theorem txConfirmed_success (time : Word) : s.txConfirmed .success time = s.clearComp.confirmSuccess time :=
  if_neg (not_not.2 hx)

/-- Both busy statuses are scored alike (R246). -/
theorem txConfirmed_busy {st : PhyStatus} (hst : st = .busyChannelSense ∨ st = .busyOwnRx) (time : Word) :
    s.txConfirmed st time = s.clearComp.confirmBusy := by
  rcases hst with rfl | rfl
  · exact if_neg (not_not.2 hx)
  · exact if_neg (not_not.2 hx)

theorem txConfirmed_fatal {st : PhyStatus} {o : TxOutcome}
    (hst : st = .busyOwnTx ∧ o = .transactionOverflow ∨ (∃ code, st = .unknown code) ∧ o = .denied) (time : Word) :
    s.txConfirmed st time = (s.clearComp.conclude o).enterOcc .eifs := by
  rcases hst with ⟨rfl, rfl⟩ | ⟨⟨code, rfl⟩, rfl⟩
  · exact if_neg (not_not.2 hx)
  · exact if_neg (not_not.2 hx)

end

theorem confirmSuccess_ackReq {s : State} (hack : s.txd.ackReq = true) (time : Word) :
    s.confirmSuccess time =
      { s with
        sess := { s.sess with txTime := time }
        mac := { s.mac with tx := .waitAck, txEntered := s.now, occ := .rifs, occEntered := s.now } } :=
  if_pos hack

theorem confirmSuccess_unacknowledged {s : State} (hack : s.txd.ackReq = false) (time : Word) :
    s.confirmSuccess time =
      { s with
        sess := { s.sess with txTime := time }
        mac := { s.mac with tx := .sendOk, occ := .cifs, occEntered := s.now } } :=
  if_neg (Bool.eq_false_iff.1 hack)

/-- Settles O46: the descriptor's `ACK_REQ`, which clearing the mark leaves, decides where the request waits. -/
theorem txcfmSuccess : Obligations.TxcfmSuccess := by
  intro s time hx
  rw [txcfm_next, txConfirmed_success hx]
  refine ⟨fun hack => ?_, fun hack => ?_⟩
  · rw [confirmSuccess_ackReq (s := s.clearComp) hack]
    rfl
  · rw [confirmSuccess_unacknowledged (s := s.clearComp) hack]
    rfl

/-- Settles O47: the engine scores the access as `ACCFAIL` of the request's priority does. -/
theorem txcfmBusy : Obligations.TxcfmBusy := by
  intro s st time hx _ hst
  have hnext := txcfm_next s st time
  rw [txConfirmed_busy hx hst] at hnext
  have hcw := accessFail_cw_toNat s.csma s.cfg s.txd.prio
  exact ⟨_, hnext, rfl, sat8Inc_toNat s.csma.nb, accessFail_nbf_toNat s.csma s.cfg s.txd.prio,
    fun hbelow => hcw.trans (if_neg (Nat.not_lt.2 hbelow)), fun habove => hcw.trans (if_pos habove)⟩

/-- Settles O48: a fatal status concludes the request, a stray confirm is for the occupancy machine alone. -/
theorem txcfmFatalOrStray : Obligations.TxcfmFatalOrStray := by
  intro s time
  refine ⟨fun hx st o hst => ?_, fun hx st => ?_⟩
  · rw [txcfm_next, txConfirmed_fatal hx hst]
    rfl
  · rw [txcfm_next, txConfirmed_stray hx]
    rfl

/-! ## `RXIND` of an accepted frame (R260 to R265) -/

theorem panOk_iff (c : CfgBank) (p : BitVec 16) : c.panOk p = true ↔ p = c.panId ∨ p = Config.panBroadcast := by
  rw [CfgBank.panOk, Bool.or_eq_true, decide_eq_true_iff, decide_eq_true_iff]

theorem addressFilter_iff (c : CfgBank) (f : Frame) :
    c.addressFilter f = true ↔
      f.dstMode = .none ∨
        ((f.dstPan = c.panId ∨ f.dstPan = Config.panBroadcast) ∧
          (f.dstMode = .short ∧
              (f.dstAddr.extractLsb' 0 16 = c.shortAddr ∨
                f.dstAddr.extractLsb' 0 16 = Config.shortAddrBroadcast) ∨
            f.dstMode = .extended ∧ f.dstAddr = c.extAddr)) := by
  rw [← panOk_iff]
  unfold CfgBank.addressFilter
  cases f.dstMode with
  | none | reserved | short | extended => simp

theorem isUnicastToMe_iff (c : CfgBank) (f : Frame) :
    c.isUnicastToMe f = true ↔
      f.dstMode = .short ∧ f.dstAddr.extractLsb' 0 16 = c.shortAddr ∧ c.shortAddr ≠ Config.shortAddrBroadcast ∨
        f.dstMode = .extended ∧ f.dstAddr = c.extAddr := by
  unfold CfgBank.isUnicastToMe
  cases f.dstMode with
  | none | reserved | short | extended => simp

theorem received_ok (s : State) (f : Frame) (pad : Nat) (ack : Bool) (time : Word) :
    s.received (.ok f pad) ack time =
      ((s.compensate.interrupt.deliver f ack time).enterOcc (if ack then .rifs else .cifs)).respond .ok 0#24 := rfl

/-- Compensation and interruption read and write nothing that the delivery does (R260). -/
theorem rxind_accept {s : State} {len : BitVec 12} {f : Frame} {pad : Nat} {b : List Byte} (ack : Bool) (time : Word)
    (hlen : len.toNat ≤ 2048) (hb : b = Memory.readRun s.rxbuf 0 len.toNat) (hok : decodeFrame b = .ok f pad) :
    exec (.rxind len ack time) s =
      .next
        { s with
          rxfr := RxBank.ofDecode f pad b
          csma := s.csma.compensated s.mac.compPending s.mac.compNbf
          mac :=
            { s.mac with
              tx := if s.mac.tx = .waitConfirm then .waitSend else s.mac.tx
              occ := if ack then .rifs else .cifs
              occEntered := s.now
              compPending := false
              compNbf := false }
          effects :=
            s.effects ++
                (if s.cfg.addressFilter f then [.dataInd (RxBank.ofDecode f pad b) f.payload time] else []) ++
              (if s.cfg.addressFilter f && ack && s.cfg.isUnicastToMe f then
                [.phyAckReq .ack (!f.lsf) (fcsOf b) (s.now + s.cfg.rifsTime)] else [])
          response := some (rspWord .ok 0#24) } := by
  subst hb
  have hdec : s.rxDecode len.toNat = .ok f pad := hok
  refine (if_neg (Nat.not_lt.2 hlen)).trans ?_
  rw [hdec, countDecode_ok hdec, received_ok, interrupt_eq, deliver_eq]
  rfl

/-- Settles O50: filter and unicast test are the model's, and a compensation writes the two counters alone. -/
theorem rxindAccepted : Obligations.RxindAccepted := by
  intro s len ack time b f pad pass unicast hlen hb hok hpass huni
  obtain rfl : s.cfg.addressFilter f = pass := Bool.eq_iff_iff.2 ((addressFilter_iff s.cfg f).trans hpass.symm)
  obtain rfl : s.cfg.isUnicastToMe f = unicast := Bool.eq_iff_iff.2 ((isUnicastToMe_iff s.cfg f).trans huni.symm)
  refine ⟨_, rxind_accept ack time hlen hb hok, ?_, compensated_nb_toNat s.csma _ _, compensated_nbf_toNat s.csma _ _⟩
  rw [compensated_shape]

/-! ## `ACKIND` (R266 to R268) -/

theorem occAfterAck_eq (o : Occ) (d : Delim) :
    occAfterAck o d =
      if o = .rifs ∧ d = .ack then .cifs else if o = .rifs ∧ d = .nack then .rcifs else .eifs := by
  unfold occAfterAck
  by_cases ho : o = .rifs
  · cases d <;> simp [ho]
  · simp [ho]

theorem txAfterAck_waitAck (d : Delim) (sub : Bool) :
    txAfterAck .waitAck d sub =
      if d = .ack then .sendOk
      else if d = .nack ∧ sub = false then .littleFail
      else if d = .nack ∧ sub = true then .bigFail
      else .waitAck := by
  cases d with
  | ack => rfl
  | nack => cases sub <;> rfl
  | other => simp [txAfterAck]

theorem ackMine_iff (s : State) (fcs : BitVec 16) :
    s.ackMine fcs = true ↔ s.mac.tx = .waitAck ∧ fcs = s.sess.txFcs := by
  rw [State.ackMine, Bool.and_eq_true, decide_eq_true_iff, decide_eq_true_iff]

/-- Settles O51: both machines read the state before the step, the transmit machine for the frame on air alone. -/
theorem ackindOperation : Obligations.AckindOperation := by
  intro s d sub fcs
  have hnext : exec (.ackind d sub fcs) s =
      .next ((s.acknowledged d sub fcs).respond .ok (if s.ackMine fcs then 1#24 else 0#24)) := rfl
  rw [hnext, State.acknowledged, occAfterAck_eq]
  by_cases hmine : s.mac.tx = .waitAck ∧ fcs = s.sess.txFcs
  · rw [if_pos hmine, if_pos hmine, if_pos ((ackMine_iff s fcs).2 hmine), if_pos ((ackMine_iff s fcs).2 hmine),
      hmine.1, txAfterAck_waitAck]
    rfl
  · rw [if_neg hmine, if_neg hmine, if_neg (mt (ackMine_iff s fcs).1 hmine),
      if_neg (mt (ackMine_iff s fcs).1 hmine)]
    rfl

end Sys2Proof.Machine

/-! The family of `70_reset_and_hazards.md`: the busy lock over the configuration and the descriptor, and who writes the
snapshot. -/

namespace Sys2Proof.Machine

/-! ## The PHY's reports keep the parameters of the request (R244, R260, R266) -/

/-- The configuration, the descriptor and the snapshot of `t` are those of `s`. -/
structure KeepsParameters (s t : State) : Prop where
  cfg : t.cfg = s.cfg
  txd : t.txd = s.txd
  snap : t.snap = s.snap

theorem KeepsParameters.trans {s t u : State} (hst : KeepsParameters s t) (htu : KeepsParameters t u) :
    KeepsParameters s u :=
  ⟨htu.cfg.trans hst.cfg, htu.txd.trans hst.txd, htu.snap.trans hst.snap⟩

theorem keepsParameters_confirmSuccess (s : State) (time : Word) : KeepsParameters s (s.confirmSuccess time) := by
  unfold State.confirmSuccess
  dsimp only
  split
  · exact ⟨rfl, rfl, rfl⟩
  · exact ⟨rfl, rfl, rfl⟩

theorem keepsParameters_txConfirmed (s : State) (status : PhyStatus) (time : Word) :
    KeepsParameters s (s.txConfirmed status time) := by
  have hclear : KeepsParameters s s.clearComp := ⟨rfl, rfl, rfl⟩
  unfold State.txConfirmed
  split
  · exact ⟨rfl, rfl, rfl⟩
  · cases status with
    | success => exact hclear.trans (keepsParameters_confirmSuccess _ time)
    | busyChannelSense | busyOwnRx | busyOwnTx | unknown => exact ⟨rfl, rfl, rfl⟩

theorem keepsParameters_countDecode (s : State) (n : Nat) : KeepsParameters s (s.countDecode n) := by
  rcases countDecode_cases s n with ⟨code, -, hs⟩ | ⟨f, pad, -, hs⟩ <;> rw [hs]
  · exact ⟨rfl, rfl, rfl⟩
  · exact ⟨rfl, rfl, rfl⟩

theorem keepsParameters_received (s : State) (r : DecodeResult) (ack : Bool) (time : Word) :
    KeepsParameters s (s.received r ack time) := by
  cases r with
  | reject code => exact ⟨rfl, rfl, rfl⟩
  | ok f pad =>
    rw [State.received, deliver_eq, interrupt_eq]
    exact ⟨rfl, rfl, rfl⟩

theorem keepsParameters_acknowledged (s : State) (d : Delim) (sub : Bool) (fcs : BitVec 16) :
    KeepsParameters s (s.acknowledged d sub fcs) := by
  unfold State.acknowledged
  dsimp only
  split
  · exact ⟨rfl, rfl, rfl⟩
  · exact ⟨rfl, rfl, rfl⟩

/-! ## The busy lock (R23, R206, R327) -/

theorem PollFrame.cfg_eq {s t : State} (h : PollFrame s t) : t.cfg = s.cfg := by
  rw [h]

theorem PollFrame.txd_eq {s t : State} (h : PollFrame s t) : t.txd = s.txd := by
  rw [h]

/-- Under an active request only `RESET`, `GET`, `POLL` and the PHY's reports do anything, and of these all but `RESET`
keep both banks. -/
theorem Does.keepsLocked {i : Instr} {s t : State} (h : Does i s t) (hactive : s.mac.tx ≠ .none)
    (hreset : ∀ clr, i ≠ .reset clr) : t.cfg = s.cfg ∧ t.txd = s.txd := by
  cases i with
  | reset clr => exact absurd rfl (hreset clr)
  | get n =>
    obtain rfl := h
    exact ⟨rfl, rfl⟩
  | poll =>
    obtain ⟨u, hu, rfl⟩ := h
    have hframe := poll_pollFrame s _ (poll_next s u hu)
    exact ⟨hframe.cfg_eq, hframe.txd_eq⟩
  | txcfm status time =>
    obtain rfl := h
    obtain ⟨hcfg, htxd, -⟩ := keepsParameters_txConfirmed s status time
    exact ⟨hcfg, htxd⟩
  | rxind len ack time =>
    obtain rfl := h
    obtain ⟨hcfg, htxd, -⟩ :=
      (keepsParameters_countDecode s len.toNat).trans (keepsParameters_received _ _ ack time)
    exact ⟨hcfg, htxd⟩
  | ackind d sub fcs =>
    obtain rfl := h
    obtain ⟨hcfg, htxd, -⟩ := keepsParameters_acknowledged s d sub fcs
    exact ⟨hcfg, htxd⟩
  | set | txreq | crc16 | hdrlen | decode | encode | phycalc | backoff | accfail | accok | compensate | nextseg
  | segdone | fallback =>
    obtain ⟨hidle, -⟩ := h
    exact absurd hidle hactive

theorem exec_keepsLocked {i : Instr} {s t : State} (h : exec i s = .next t) (hactive : s.mac.tx ≠ .none)
    (hreset : ∀ clr, i ≠ .reset clr) : t.cfg = s.cfg ∧ t.txd = s.txd := by
  rcases exec_cases i s t h with ⟨c, -, rfl⟩ | hd
  · exact ⟨rfl, rfl⟩
  · exact hd.keepsLocked hactive hreset

/-! ## The snapshot in a `POLL` (R230, R254) -/

theorem Built.snap_eq {s w : State} (h : Built s w) : w.snap = s.snap := by
  obtain ⟨b, -, rfl⟩ := h
  rfl

theorem tickWaitSend_snap {s u : State} (h : tickWaitSend s = .next u) : u.snap = s.snap := by
  rcases tickWaitSend_cases s u h with ⟨-, rfl⟩ | ⟨time, sense, -, rfl⟩
  · rfl
  · rfl

theorem tickFailCsmaCa_snap (s : State) : (tickFailCsmaCa s).snap = s.snap := by
  unfold tickFailCsmaCa
  split
  · rfl
  · split
    · rfl
    · rfl

theorem tickWaitAck_snap (s : State) : (tickWaitAck s).snap = s.snap := by
  unfold tickWaitAck
  split
  · rfl
  · rfl

theorem tickSendOk_snap (s : State) : (tickSendOk s).snap = s.snap := by
  rcases tickSendOk_cases s with h | h | ⟨w, hw, h⟩ | h <;> rw [h]
  · rfl
  · rfl
  · exact hw.snap_eq
  · rfl

theorem tickLittleFail_snap (s : State) : (tickLittleFail s).snap = s.snap := by
  unfold tickLittleFail
  split
  · rfl
  · rfl

/-- The snapshot is loaded in `START` and falls in `BIG_FAIL`; no other transition writes it. -/
theorem txTick_snap {s u : State} (h : txTick s = .next u) (hstart : s.mac.tx ≠ .start)
    (hbigFail : s.mac.tx ≠ .bigFail) : u.snap = s.snap := by
  unfold txTick at h
  rcases hx : s.mac.tx <;> rw [hx] at h <;> dsimp only at h
  case start => exact absurd hx hstart
  case bigFail => exact absurd hx hbigFail
  case waitSend => exact tickWaitSend_snap h
  all_goals obtain rfl := Host.Outcome.next.inj h
  case none | csmaCa | waitConfirm => rfl
  case failCsmaCa => exact tickFailCsmaCa_snap s
  case waitAck => exact tickWaitAck_snap s
  case sendOk => exact tickSendOk_snap s
  case littleFail => exact tickLittleFail_snap s

/-! ## Who writes the snapshot (R160) -/

@[simp] theorem writeReg_snap (s : State) (r : Reg) (v : Word) : (s.writeReg r v).snap = s.snap := by
  rw [writeReg_shape]

/-- The operation is one of the writers of the snapshot; a `POLL` is one in two sub-states. -/
def MayWriteSnap (i : Instr) (s : State) : Prop :=
  (∃ load, i = .phycalc load) ∨ (∃ r, i = .fallback r) ∨ (∃ clr, i = .reset clr) ∨
    (i = .poll ∧ (s.mac.tx = .start ∨ s.mac.tx = .bigFail))

theorem poll_snap {s t : State} (h : exec .poll s = .next t) (hw : ¬ MayWriteSnap .poll s) : t.snap = s.snap := by
  obtain ⟨u, hu, rfl⟩ := poll_cases s t h
  have hx : ¬ (s.mac.tx = .start ∨ s.mac.tx = .bigFail) := fun hx => hw (.inr (.inr (.inr ⟨rfl, hx⟩)))
  obtain ⟨hstart, hbigFail⟩ := not_or.1 hx
  rw [← occTick_tx s] at hstart hbigFail
  rw [State.pollAnswer_snap, ← occTick_snap s]
  exact txTick_snap hu hstart hbigFail

theorem Does.snap_eq {i : Instr} {s t : State} (h : Does i s t) (hw : ¬ MayWriteSnap i s) : t.snap = s.snap := by
  cases i with
  | phycalc load => exact absurd (.inl ⟨load, rfl⟩) hw
  | fallback r => exact absurd (.inr (.inl ⟨r, rfl⟩)) hw
  | reset clr => exact absurd (.inr (.inr (.inl ⟨clr, rfl⟩))) hw
  | poll =>
    obtain ⟨u, hu, rfl⟩ := h
    exact poll_snap (poll_next s u hu) hw
  | get n =>
    obtain rfl := h
    rfl
  | set n v =>
    obtain ⟨-, r, -, -, -, rfl⟩ := h
    exact writeReg_snap s r v
  | txreq =>
    obtain ⟨-, -, rfl⟩ := h
    rfl
  | txcfm status time =>
    obtain rfl := h
    exact (keepsParameters_txConfirmed s status time).snap
  | rxind len ack time =>
    obtain rfl := h
    exact ((keepsParameters_countDecode s len.toNat).trans (keepsParameters_received _ _ ack time)).snap
  | ackind d sub fcs =>
    obtain rfl := h
    exact (keepsParameters_acknowledged s d sub fcs).snap
  | decode len =>
    obtain ⟨-, r, rfl⟩ := h
    exact (keepsParameters_countDecode s len.toNat).snap
  | encode =>
    obtain ⟨-, b, r, -, rfl⟩ := h
    rfl
  | nextseg seg off =>
    obtain ⟨-, w, hw, rfl⟩ := h
    exact hw.snap_eq
  | crc16 | hdrlen | backoff | accfail | accok | compensate | segdone =>
    obtain ⟨-, r, rfl⟩ := h
    rfl

theorem exec_snap_eq {i : Instr} {s t : State} (h : exec i s = .next t) (hw : ¬ MayWriteSnap i s) :
    t.snap = s.snap := by
  rcases exec_cases i s t h with ⟨c, -, rfl⟩ | hd
  · rfl
  · exact hd.snap_eq hw

/-- Settles O56: under a request the lock leaves `GET`, `POLL` and the PHY's reports, which keep both banks; an
operation that is no writer of the snapshot keeps it. -/
theorem lockAndSnapshot : Obligations.LockAndSnapshot := by
  intro i s t h
  refine ⟨fun hactive hreset => exec_keepsLocked h hactive hreset, fun hchanged => ?_⟩
  by_contra hw
  exact hchanged (exec_snap_eq h hw)

end Sys2Proof.Machine
